-- ==== Sys2Proof/Config.lean ====
section
/-!
DEFINITION. The parameters that the spec leaves to an instance of the block (00_scope.md R6), at the
values GOLAY24 takes. No other quantity is left to the implementation, and no instruction has an
undefined result, so there is no free value here.
-/

namespace Sys2Proof.Config

/-- `LENW`, the width of `E_LEN` (R6, R13). The spec lets a model take any width of at least 2; this is
the spec's own value. DESIGN CHOICE (log 4): the parameter is fixed; unsafe for an instance built with
another width. -/
abbrev lenw : Nat := 32

/-- `ERRW`, the width of `D_ERR` (R6, R18). DESIGN CHOICE (log 4): fixed at the spec's own value; unsafe
for an instance built with another width. -/
abbrev errw : Nat := 32

end Sys2Proof.Config
end

