-- ==== Sys2Proof/Word.lean ====
section
/-!
DEFINITION. The fixed-width values of the block (00_scope.md R2, R7; 30_encoding.md R50). All are
unsigned, and bit 0 is the least significant bit.
-/

namespace Sys2Proof

/-- One stream element (R30). -/
abbrev Byte := BitVec 8

/-- A data symbol, `K = 12` bits (R2). Typed, so that the precondition of R76 holds by typing. -/
abbrev Symbol := BitVec 12

/-- A codeword, a received word or an error pattern, `N = 24` bits (R2, R93). -/
abbrev Codeword := BitVec 24

/-- A command word (R50). -/
abbrev CommandWord := BitVec 27

end Sys2Proof
end

