-- ==== Sys2Proof/Machine/Operands.lean ====
section
/-!
DEFINITION. The fields of a command word and the four operand forms (30_encoding.md R50 to R53).
-/

namespace Sys2Proof.Machine

/-- `op = w[26:24]` (R50). -/
def opField (w : CommandWord) : BitVec 3 := w.extractLsb' 24 3

/-- `operand = w[23:0]` (R50). -/
def operandField (w : CommandWord) : BitVec 24 := w.extractLsb' 0 24

/-- The operand forms of R52. -/
inductive OperandForm
  | z
  | s12
  | c24
  | b8
deriving DecidableEq, Repr

/-- How many low bits of the operand the form uses (R52). -/
def usedBits : OperandForm → Nat
  | .z => 0
  | .s12 => 12
  | .c24 => 24
  | .b8 => 8

/-- The operand bits that the form does not use are all zero (R52, R53). -/
def reservedBitsZero (form : OperandForm) (operand : BitVec 24) : Bool :=
  operand >>> usedBits form == 0#24

/-- The symbol of form S12, `operand[11:0]` (R52). -/
def symbolOperand (operand : BitVec 24) : Symbol := operand.extractLsb' 0 12

/-- The byte of form B8, `operand[7:0]` (R52). -/
def byteOperand (operand : BitVec 24) : Byte := operand.extractLsb' 0 8

/-- The operand form of each operation code; code 7 is reserved (R51, R54). -/
def formOfOp (op : BitVec 3) : Option OperandForm :=
  match op.toNat with
  | 0 => some .z
  | 1 => some .s12
  | 2 => some .c24
  | 3 => some .b8
  | 4 => some .z
  | 5 => some .b8
  | 6 => some .z
  | _ => none

end Sys2Proof.Machine
end

