-- ==== Sys2Proof/Syntax.lean ====
section
/-!
DEFINITION. The seven commands, one constructor per row of the opcode table (30_encoding.md R51). The
operand of each is typed by the bits its form uses (R52), so a word with a reserved bit set is no
instruction at all: it decodes to none (R55, R162).
-/

namespace Sys2Proof

/-- A command of the block. -/
inductive Instr
  /-- `NOP` (R123): no operand. -/
  | nop
  /-- `ENCSYM s` (R104): encode one 12-bit symbol into `RES`. -/
  | encsym (s : Symbol)
  /-- `DECSYM c` (R105): decode one 24-bit word into `RES`. -/
  | decsym (c : Codeword)
  /-- `ENCB b` (R124): push one payload byte. -/
  | encb (b : Byte)
  /-- `ENCEND` (R125): end the payload. -/
  | encend
  /-- `DECB b` (R126): push one received byte. -/
  | decb (b : Byte)
  /-- `DECEND` (R127): end the received stream. -/
  | decend
deriving DecidableEq, Repr

end Sys2Proof
end

