-- ==== Sys2Proof/WellFormed.lean ====
section
/-!
DEFINITION. Which command words are well formed (30_encoding.md R53, R54). An `Instr` needs no check of
its own: its operands are typed by the bits their form uses (R52, R76), so every `Instr` is well formed,
and the checks stand where an ill-formed term can be written, at the 27-bit word.
-/

namespace Sys2Proof

/-- A word is well formed when its `op` is not reserved (R54) and the operand bits that its form does not
use are zero (R53). -/
def wellFormedWord (w : CommandWord) : Bool :=
  match Machine.formOfOp (Machine.opField w) with
  | none => false
  | some form => Machine.reservedBitsZero form (Machine.operandField w)

end Sys2Proof
end

