-- ==== Sys2Proof/Decode.lean ====
section
/-!
DEFINITION. The decoder, total on the 2^27 command words and rejecting by name, and the encoder
(30_encoding.md R50 to R55).
-/

namespace Sys2Proof

/-- Why a command word is illegal (R53, R54). The block itself records neither which (R162). -/
inductive DecodeError
  /-- `op = 7` (R54). -/
  | reservedOp
  /-- A reserved operand bit is set (R53). -/
  | reservedOperandBits
deriving DecidableEq, Repr

/-- Answers `i` when the reserved operand bits of the form are zero (R53). -/
def checkReserved (form : Machine.OperandForm) (operand : BitVec 24) (i : Instr) :
    Except DecodeError Instr :=
  if Machine.reservedBitsZero form operand then .ok i else .error .reservedOperandBits

/-- The command a word stands for (R51), or why it is illegal. -/
def decode (w : CommandWord) : Except DecodeError Instr :=
  let operand := Machine.operandField w
  match (Machine.opField w).toNat with
  | 0 => checkReserved .z operand .nop
  | 1 => checkReserved .s12 operand (.encsym (Machine.symbolOperand operand))
  | 2 => checkReserved .c24 operand (.decsym operand)
  | 3 => checkReserved .b8 operand (.encb (Machine.byteOperand operand))
  | 4 => checkReserved .z operand .encend
  | 5 => checkReserved .b8 operand (.decb (Machine.byteOperand operand))
  | 6 => checkReserved .z operand .decend
  | _ => .error .reservedOp

/-- The operation code of a command (R51). -/
def opcode : Instr → BitVec 3
  | .nop => 0#3
  | .encsym _ => 1#3
  | .decsym _ => 2#3
  | .encb _ => 3#3
  | .encend => 4#3
  | .decb _ => 5#3
  | .decend => 6#3

/-- The operand field of a command, zero-extended by the must-be-zero rule (R52). -/
def operandBits : Instr → BitVec 24
  | .nop | .encend | .decend => 0#24
  | .encsym s => s.setWidth 24
  | .decsym c => c
  | .encb b | .decb b => b.setWidth 24

/-- The word of a command: `op` in bits 26:24, `operand` in bits 23:0 (R50). -/
def encode (i : Instr) : CommandWord := opcode i ++ operandBits i

/-- The command word that the low `nbits` bits of `w` give, every bit above them zero; none when they do
not fit in the 27 bits a command word has (R50). DESIGN CHOICE (log 17); safe: no word is made up. -/
def tableCommandWord (nbits w : Nat) : Option CommandWord :=
  if w % 2 ^ nbits < 2 ^ 27 then some (BitVec.ofNat 27 (w % 2 ^ nbits)) else none

/-- The instruction the decoder reads from the bits `w`, numbered as the opcode table numbers them (bit 0
is bit 0 of the one command word). -/
def decodeTableWord (nbits w : Nat) : Option Instr :=
  match tableCommandWord nbits w with
  | none => none
  | some word =>
    match decode word with
    | .ok i => some i
    | .error _ => none

end Sys2Proof
end

