-- ==== Sys2Proof/Machine/Bits.lean ====
section
/-!
DEFINITION. Bit helpers of the notation of 00_scope.md section 6: a value from its bits, and `popcount`.
-/

namespace Sys2Proof.Machine

/-- The `w`-bit value whose bit `i` is `f i` (R7: bit 0 is the least significant). -/
def ofBits (f : Nat → Bool) : (w : Nat) → BitVec w
  | 0 => 0#0
  | w + 1 => BitVec.cons (f w) (ofBits f w)

/-- How many of the bits `0 .. n - 1` of `v` are 1. -/
def popcountBelow {w : Nat} (v : BitVec w) : Nat → Nat
  | 0 => 0
  | n + 1 => (v.getLsbD n).toNat + popcountBelow v n

/-- `popcount(v)`, the number of 1 bits of `v`, its Hamming weight (00_scope.md section 6). -/
def popcount {w : Nat} (v : BitVec w) : Nat := popcountBelow v w

/-- `dist(a, b)`, the Hamming distance (00_scope.md section 6). -/
def dist {w : Nat} (a b : BitVec w) : Nat := popcount (a ^^^ b)

end Sys2Proof.Machine
end

