-- ==== Sys2Proof/Machine/State.lean ====
section
/-!
DEFINITION. The state of one GOLAY24 block (10_state.md R10 to R26), its reset value (R24), and the
reasons a step can stop.
-/

namespace Sys2Proof.Machine

/-- What the host presents in one step: a command word (R50), a reset (R180), or both at once (R181).
DESIGN CHOICE (log 12): the reset signal is an event; safe, every order of resets and commands can be
presented. -/
inductive HostEvent
  | command (w : CommandWord)
  | reset
  | resetAndCommand (w : CommandWord)
deriving DecidableEq, Repr

/-- The ten registers of R10, the two output histories of R26, and what the host has still to present. -/
structure State where
  /-- `E_ACC` (R11): the payload bits received and not yet put in a symbol. -/
  eAcc : BitVec 8
  /-- `E_CNT` (R12): how many they are, 0, 8 or 4. -/
  eCnt : BitVec 4
  /-- `E_LEN` (R13): bytes emitted on `ENC_OUT` for the current payload, modulo `2^LENW`. -/
  eLen : BitVec Config.lenw
  /-- `D_GRP` (R14): the bytes of the current group received so far. -/
  dGrp : BitVec 16
  /-- `D_GN` (R15): how many they are, 0, 1 or 2. -/
  dGn : BitVec 2
  /-- `D_ACC` (R16): the low 4 bits of the last corrected symbol, when not yet emitted. -/
  dAcc : BitVec 4
  /-- `D_AN` (R17): how many decoded bits are pending, 0 or 4. -/
  dAn : BitVec 3
  /-- `D_ERR` (R18): errors corrected in the current stream, modulo `2^ERRW`. -/
  dErr : BitVec Config.errw
  /-- `RES` (R19): the result register, a level output. -/
  res : BitVec 32
  /-- `ILL` (R20, R163): an illegal word has been presented since reset. -/
  ill : Bool
  /-- `ENC_OUT` (R26): every byte emitted on it, oldest first (log 3). -/
  encOut : List Byte
  /-- `DEC_OUT` (R26): every byte emitted on it, oldest first (log 3). -/
  decOut : List Byte
  /-- The MODEL's own field (log 1): the command stream of R30, oldest first. -/
  input : List HostEvent
deriving DecidableEq, Repr

/-- The machine right after reset: every register zero (R24), both streams empty (95_test_vectors.md part
3; log 3), nothing presented yet (log 1). -/
def State.reset : State where
  eAcc := 0#8
  eCnt := 0#4
  eLen := 0#32
  dGrp := 0#16
  dGn := 0#2
  dAcc := 0#4
  dAn := 0#3
  dErr := 0#32
  res := 0#32
  ill := false
  encOut := []
  decOut := []
  input := []

/-- A fault that stops the machine. There is none: the one fault of the block, IllegalCommand, sets `ILL`
and the block carries on (R162, R163), and "no legal command can fault, trap, hang or fail" (R160).
DEDUCED (log 10); safe. -/
inductive Fault
deriving DecidableEq, Repr

/-- Why a step has no next state. -/
inductive Refusal
  /-- An instruction with no meaning yet. No arm raises it; safe. -/
  | notModelled (mnemonic : String)
  /-- Raised by ENCB and ENCEND when `E_CNT` is not 0, 4 or 8, where R78 and R79 have no case (R23; 93,
  level H table: "refuse"). Unreachable from reset; safe (log 6). -/
  | splitPhaseNotCovered
  /-- Raised by DECB when `D_GN` is 3, where R126 has no case (R15, R23). Unreachable from reset; safe
  (log 6). -/
  | groupPhaseNotCovered
  /-- Raised by the third DECB of a group when `D_AN` is not 0 or 4, where R81 has no case (R17, R23).
  Unreachable from reset; safe (log 6). -/
  | joinPhaseNotCovered
deriving DecidableEq, Repr

end Sys2Proof.Machine
end

