-- ==== Sys2Proof/Machine/Ops.lean ====
section
/-!
DEFINITION. The named operations over registers and streams, the reset event (70_reset_and_hazards.md
R180), and the block's one fault (60_exceptions.md R163). There is no trap entry and no return from one
(R165): raising IllegalCommand is the whole of it.
-/

namespace Sys2Proof.Machine

/-- Writes `E_ACC` and `E_CNT` together (R42). -/
def State.setSplit (s : State) (acc : BitVec 8) (cnt : BitVec 4) : State :=
  { s with eAcc := acc, eCnt := cnt }

/-- Writes `E_LEN`. -/
def State.setELen (s : State) (n : BitVec Config.lenw) : State := { s with eLen := n }

/-- Writes `D_GRP` and `D_GN` together (R42). -/
def State.setGroup (s : State) (grp : BitVec 16) (gn : BitVec 2) : State :=
  { s with dGrp := grp, dGn := gn }

/-- Writes `D_ACC` and `D_AN` together (R42). -/
def State.setJoin (s : State) (acc : BitVec 4) (an : BitVec 3) : State :=
  { s with dAcc := acc, dAn := an }

/-- Writes `D_ERR`. -/
def State.setDErr (s : State) (n : BitVec Config.errw) : State := { s with dErr := n }

/-- Writes `RES` (R19). -/
def State.setRes (s : State) (v : BitVec 32) : State := { s with res := v }

/-- `emit ENC_OUT` of several bytes, in order (00_scope.md section 6; R26, R42). -/
def State.emitEnc (s : State) (bs : List Byte) : State := { s with encOut := s.encOut ++ bs }

/-- `emit DEC_OUT` of several bytes, in order (00_scope.md section 6; R26, R42). -/
def State.emitDec (s : State) (bs : List Byte) : State := { s with decOut := s.decOut ++ bs }

/-- The host's events still to come. -/
def State.setInput (s : State) (es : List HostEvent) : State := { s with input := es }

/-- `raise IllegalCommand(w)`: `ILL <- 1` and nothing else (R163). It records nothing of the word (R162). -/
def raiseIllegalCommand (s : State) : State := { s with ill := true }

/-- The reset event: every register takes its reset value, and bytes already emitted stay emitted (R180,
R26). -/
def applyReset (s : State) : State :=
  { State.reset with encOut := s.encOut, decOut := s.decOut, input := s.input }

end Sys2Proof.Machine
end

