-- ==== Sys2Proof/Machine/Framer.lean ====
section
/-!
DEFINITION. The Block Framer (40_block_framer.md): the level F functions `split` and `join`, and the level
H units that compute them a byte or a symbol at a time. Most significant bit first throughout (20_memory.md
R32 to R37).
-/

namespace Sys2Proof.Machine

/-- Bit `j` of the payload's bit stream, 0 past its end (R32, R70). -/
def payloadBit (p : List Byte) (j : Nat) : Bool := (p.getD (j / 8) 0#8).getLsbD (7 - j % 8)

/-- `ceil(8n / 12)`, the number of symbols of a payload of `n` bytes (R70). -/
def symbolCount (n : Nat) : Nat := (8 * n + 11) / 12

/-- `split(P)` (R70): symbol `m` has bit `12m + i` of the stream as its bit `11 - i` (R33). -/
def split (p : List Byte) : List Symbol :=
  (List.range (symbolCount p.length)).map fun m => ofBits (fun i => payloadBit p (12 * m + (11 - i))) 12

/-- Bit `j` of the symbols' bit stream (R36, R73). -/
def symbolBit (syms : List Symbol) (j : Nat) : Bool := (syms.getD (j / 12) 0#12).getLsbD (11 - j % 12)

/-- `join(S)` (R73): byte `k` has bit `8k + r` of the stream as its bit `7 - r` (R36); a trailing partial
byte is truncated. -/
def join (syms : List Symbol) : List Byte :=
  (List.range (12 * syms.length / 8)).map fun k => ofBits (fun r => symbolBit syms (8 * k + (7 - r))) 8

/-- `split_push(b)` (R78): the symbol completed, if any, and the state after. The refusal is for a value of
`E_CNT` that R78 has no case for (log 6). -/
def splitPush (b : Byte) (s : State) : Except Refusal (Option Symbol × State) :=
  if s.eCnt = 0#4 then .ok (none, s.setSplit b 8#4)
  else if s.eCnt = 8#4 then
    .ok (some (s.eAcc ++ b.extractLsb' 4 4), s.setSplit ((b.extractLsb' 0 4).setWidth 8) 4#4)
  else if s.eCnt = 4#4 then .ok (some (s.eAcc.extractLsb' 0 4 ++ b), s.setSplit 0#8 0#4)
  else .error .splitPhaseNotCovered

/-- `split_flush()` (R79): the zero-padded last symbol, if bits are pending, and the state after. With
nothing pending it returns before the two writes, as R79 is written (log 7). -/
def splitFlush (s : State) : Except Refusal (Option Symbol × State) :=
  if s.eCnt = 0#4 then .ok (none, s)
  else if s.eCnt = 8#4 then .ok (some (s.eAcc ++ 0#4), s.setSplit 0#8 0#4)
  else if s.eCnt = 4#4 then .ok (some (s.eAcc.extractLsb' 0 4 ++ 0#8), s.setSplit 0#8 0#4)
  else .error .splitPhaseNotCovered

/-- `join_push(s)` (R81): the bytes completed, in order, and the state after. The refusal is for a value of
`D_AN` that R81 has no case for (log 6). -/
def joinPush (sym : Symbol) (s : State) : Except Refusal (List Byte × State) :=
  if s.dAn = 0#3 then .ok ([sym.extractLsb' 4 8], s.setJoin (sym.extractLsb' 0 4) 4#3)
  else if s.dAn = 4#3 then
    .ok ([s.dAcc ++ sym.extractLsb' 8 4, sym.extractLsb' 0 8], s.setJoin 0#4 0#3)
  else .error .joinPhaseNotCovered

/-- `join_flush()` (R82): the pending 4 bits, if any, are discarded whatever their value. -/
def joinFlush (s : State) : State := s.setJoin 0#4 0#3

end Sys2Proof.Machine
end

