-- ==== Sys2Proof/Machine/SynRom.lean ====
section
/-!
DEFINITION. The syndrome ROM, the listing of 43_syndrome_rom.md R150 as it stands there: one number a row
of 16 words, 24 bits a word, the word of the lowest address first (most significant). The page `p` holds
the addresses `0xp00` to `0xpFF`. It is constant, configuration and not state (10_state.md R22). That its
words are those of 41_golay_transform.md R96 and R97 is stated in the obligations.
-/

namespace Sys2Proof.Machine

/-- `SYNROM` addresses `0x000` to `0x0FF`. -/
def synRomPage0 : List Nat :=
  [ 0x000000_000001_000002_000003_000004_000005_000006_000007_000008_000009_00000A_00000B_00000C_00000D_00000E_00000E,
    0x000010_000011_000012_000013_000014_000015_000016_000016_000018_000019_00001A_00001A_00001C_00001C_402400_402400,
    0x000020_000021_000022_000023_000024_000025_000026_000026_000028_000029_00002A_00002A_00002C_00002C_180080_180080,
    0x000030_000031_000032_000032_000034_000034_020300_020300_000038_000038_009040_009040_804800_804800_250000_250000,
    0x000040_000041_000042_000043_000044_000045_000046_000046_000048_000049_00004A_00004A_00004C_00004C_030800_030800,
    0x000050_000051_000052_000052_000054_000054_8C0000_8C0000_000058_000058_009020_009020_300100_300100_004280_004280,
    0x000060_000061_000062_000062_000064_000064_604000_604000_000068_000068_009010_009010_040600_040600_802100_802100,
    0x000070_000070_009008_009008_012080_012080_100C00_100C00_009002_009002_009001_009000_4A0000_4A0000_009004_009004,
    0x000080_000081_000082_000083_000084_000085_000086_000086_000088_000089_00008A_00008A_00008C_00008C_180020_180020,
    0x000090_000091_000092_000092_000094_000094_208800_208800_000098_000098_810100_810100_061000_061000_004240_004240,
    0x0000A0_0000A1_0000A2_0000A2_0000A4_0000A4_180008_180008_0000A8_0000A8_180004_180004_180002_180002_180001_180000,
    0x0000B0_0000B0_044400_044400_012040_012040_C01000_C01000_600200_600200_022800_022800_008500_008500_180010_180010,
    0x0000C0_0000C1_0000C2_0000C2_0000C4_0000C4_001500_001500_0000C8_0000C8_242000_242000_C08000_C08000_004210_004210,
    0x0000D0_0000D0_520000_520000_012020_012020_004208_004208_080C00_080C00_004204_004204_004202_004202_004200_004201,
    0x0000E0_0000E0_800A00_800A00_012010_012010_068000_068000_024100_024100_410400_410400_201800_201800_180040_180040,
    0x012004_012004_280100_280100_012001_012000_012002_012002_940000_940000_009080_009080_012008_012008_004220_004220 ]

/-- `SYNROM` addresses `0x100` to `0x1FF`. -/
def synRomPage1 : List Nat :=
  [ 0x000100_000101_000102_000103_000104_000105_000106_000106_000108_000109_00010A_00010A_00010C_00010C_04C000_04C000,
    0x000110_000111_000112_000112_000114_000114_020220_020220_000118_000118_810080_810080_300040_300040_081800_081800,
    0x000120_000121_000122_000122_000124_000124_020210_020210_000128_000128_200C00_200C00_411000_411000_802040_802040,
    0x000130_000130_020204_020204_020202_020202_020201_020200_0C2000_0C2000_504000_504000_008480_008480_020208_020208,
    0x000140_000141_000142_000142_000144_000144_001480_001480_000148_000148_480200_480200_300010_300010_802020_802020,
    0x000150_000150_006800_006800_300008_300008_418000_418000_300004_300004_060400_060400_300001_300000_300002_300002,
    0x000160_000160_150000_150000_088800_088800_802008_802008_024080_024080_802004_802004_802002_802002_802000_802001,
    0xC00400_C00400_280080_280080_045000_045000_020240_020240_010A00_010A00_009100_009100_300020_300020_802010_802010,
    0x000180_000181_000182_000182_000184_000184_001440_001440_000188_000188_810010_810010_002A00_002A00_620000_620000,
    0x000190_000190_810008_810008_484000_484000_142000_142000_810002_810002_810001_810000_008420_008420_810004_810004,
    0x0001A0_0001A0_40A000_40A000_A40000_A40000_014800_014800_024040_024040_041200_041200_008410_008410_180100_180100,
    0x101800_101800_280040_280040_008408_008408_020280_020280_008404_008404_810020_810020_008400_008401_008402_008402,
    0x0001C0_0001C0_001404_001404_001402_001402_001401_001400_024020_024020_108800_108800_0D0000_0D0000_001408_001408,
    0x048200_048200_280020_280020_820800_820800_001410_001410_403000_403000_810040_810040_300080_300080_004300_004300,
    0x024008_024008_280010_280010_500200_500200_001420_001420_024001_024000_024002_024002_024004_024004_802080_802080,
    0x280002_280002_280000_280001_012100_012100_280004_280004_024010_024010_280008_280008_008440_008440_440800_440800 ]

/-- `SYNROM` addresses `0x200` to `0x2FF`. -/
def synRomPage2 : List Nat :=
  [ 0x000200_000201_000202_000203_000204_000205_000206_000206_000208_000209_00020A_00020A_00020C_00020C_A01000_A01000,
    0x000210_000211_000212_000212_000214_000214_020120_020120_000218_000218_140800_140800_098000_098000_0040C0_0040C0,
    0x000220_000221_000222_000222_000224_000224_020110_020110_000228_000228_016000_016000_040440_040440_408800_408800,
    0x000230_000230_020104_020104_020102_020102_020101_020100_600080_600080_880400_880400_103000_103000_020108_020108,
    0x000240_000241_000242_000242_000244_000244_10A000_10A000_000248_000248_480100_480100_040420_040420_004090_004090,
    0x000250_000250_210400_210400_401800_401800_004088_004088_822000_822000_004084_004084_004082_004082_004080_004081,
    0x000260_000260_800880_800880_040408_040408_091000_091000_040404_040404_320000_320000_040401_040400_040402_040402,
    0x184000_184000_442000_442000_A08000_A08000_020140_020140_010900_010900_009200_009200_040410_040410_0040A0_0040A0,
    0x000280_000281_000282_000282_000284_000284_450000_450000_000288_000288_028400_028400_002900_002900_004050_004050,
    0x000290_000290_083000_083000_900400_900400_004048_004048_600020_600020_004044_004044_004042_004042_004040_004041,
    0x0002A0_0002A0_800840_800840_00D000_00D000_202400_202400_600010_600010_041100_041100_830000_830000_180200_180200,
    0x600008_600008_118000_118000_0C0800_0C0800_020180_020180_600001_600000_600002_600002_600004_600004_004060_004060,
    0x0002C0_0002C0_800820_800820_2A0000_2A0000_004018_004018_111000_111000_004014_004014_004012_004012_004010_004011,
    0x048100_048100_00400C_00400C_00400A_00400A_004008_004009_004006_004006_004004_004005_004002_004003_004000_004001,
    0x800802_800802_800801_800800_500100_500100_800804_800804_08A000_08A000_800808_800808_040480_040480_004030_004030,
    0x021400_021400_800810_800810_012200_012200_004028_004028_600040_600040_004024_004024_004022_004022_004020_004021 ]

/-- `SYNROM` addresses `0x300` to `0x3FF`. -/
def synRomPage3 : List Nat :=
  [ 0x000300_000301_000302_000302_000304_000304_020030_020030_000308_000308_480040_480040_002880_002880_110400_110400,
    0x000310_000310_020024_020024_020022_020022_020021_020020_005400_005400_20A000_20A000_C40000_C40000_020028_020028,
    0x000320_000320_020014_020014_020012_020012_020011_020010_908000_908000_041080_041080_284000_284000_020018_020018,
    0x020006_020006_020005_020004_020003_020002_020001_020000_010840_010840_02000C_02000C_02000A_02000A_020009_020008,
    0x000340_000340_480008_480008_814000_814000_240800_240800_480002_480002_480001_480000_029000_029000_480004_480004,
    0x048080_048080_901000_901000_082400_082400_020060_020060_010820_010820_480010_480010_300200_300200_004180_004180,
    0x203000_203000_00C400_00C400_500080_500080_020050_020050_010810_010810_480020_480020_040500_040500_802200_802200,
    0x010808_010808_020044_020044_020042_020042_020041_020040_010800_010801_010802_010802_010804_010804_020048_020048,
    0x000380_000380_304000_304000_002808_002808_888000_888000_002804_002804_041020_041020_002801_002800_002802_002802,
    0x048040_048040_400C00_400C00_211000_211000_0200A0_0200A0_1A0000_1A0000_810200_810200_002810_002810_004140_004140,
    0x090400_090400_041008_041008_500040_500040_020090_020090_041002_041002_041000_041001_002820_002820_041004_041004,
    0x806000_806000_020084_020084_020082_020082_020081_020080_600100_600100_041010_041010_008600_008600_020088_020088,
    0x048010_048010_032000_032000_500020_500020_001600_001600_A00400_A00400_480080_480080_002840_002840_004110_004110,
    0x048001_048000_048002_048002_048004_048004_004108_004108_048008_048008_004104_004104_004102_004102_004100_004101,
    0x500004_500004_800900_800900_500000_500001_500002_500002_024200_024200_041040_041040_500008_500008_218000_218000,
    0x048020_048020_280200_280200_500010_500010_0200C0_0200C0_010880_010880_102400_102400_881000_881000_004120_004120 ]

/-- `SYNROM` addresses `0x400` to `0x4FF`. -/
def synRomPage4 : List Nat :=
  [ 0x000400_000401_000402_000403_000404_000405_000406_000406_000408_000409_00040A_00040A_00040C_00040C_402010_402010,
    0x000410_000411_000412_000412_000414_000414_402008_402008_000418_000418_402004_402004_402002_402002_402001_402000,
    0x000420_000421_000422_000422_000424_000424_818000_818000_000428_000428_200900_200900_040240_040240_025000_025000,
    0x000430_000430_044080_044080_281000_281000_100840_100840_130000_130000_880200_880200_008180_008180_402020_402020,
    0x000440_000441_000442_000442_000444_000444_001180_001180_000448_000448_904000_904000_040220_040220_288000_288000,
    0x000450_000450_210200_210200_02C000_02C000_100820_100820_080880_080880_060100_060100_811000_811000_402040_402040,
    0x000460_000460_0A2000_0A2000_040208_040208_100810_100810_040204_040204_410080_410080_040201_040200_040202_040202,
    0xC00100_C00100_100804_100804_100802_100802_100800_100801_206000_206000_009400_009400_040210_040210_100808_100808,
    0x000480_000481_000482_000482_000484_000484_001140_001140_000488_000488_028200_028200_214000_214000_840800_840800,
    0x000490_000490_044020_044020_900200_900200_0B0000_0B0000_080840_080840_301000_301000_008120_008120_402080_402080,
    0x0004A0_0004A0_044010_044010_420800_420800_202200_202200_803000_803000_410040_410040_008110_008110_180400_180400,
    0x044002_044002_044001_044000_008108_008108_044004_044004_008104_008104_044008_044008_008100_008101_008102_008102,
    0x0004C0_0004C0_001104_001104_001102_001102_001101_001100_080810_080810_410020_410020_122000_122000_001108_001108,
    0x080808_080808_80A000_80A000_640000_640000_001110_001110_080801_080800_080802_080802_080804_080804_004600_004600,
    0x308000_308000_410008_410008_884000_884000_001120_001120_410002_410002_410000_410001_040280_040280_410004_410004,
    0x021200_021200_044040_044040_012400_012400_100880_100880_080820_080820_410010_410010_008140_008140_A20000_A20000 ]

/-- `SYNROM` addresses `0x500` to `0x5FF`. -/
def synRomPage5 : List Nat :=
  [ 0x000500_000501_000502_000502_000504_000504_0010C0_0010C0_000508_000508_200820_200820_8A0000_8A0000_110200_110200,
    0x000510_000510_188000_188000_050800_050800_A04000_A04000_005200_005200_060040_060040_0080A0_0080A0_402100_402100,
    0x000520_000520_200808_200808_106000_106000_4C0000_4C0000_200802_200802_200801_200800_008090_008090_200804_200804,
    0xC00040_C00040_013000_013000_008088_008088_020600_020600_008084_008084_200810_200810_008080_008081_008082_008082,
    0x000540_000540_001084_001084_001082_001082_001081_001080_01A000_01A000_060010_060010_404800_404800_001088_001088,
    0xC00020_C00020_060008_060008_082200_082200_001090_001090_060002_060002_060000_060001_300400_300400_060004_060004,
    0xC00010_C00010_00C200_00C200_230000_230000_0010A0_0010A0_181000_181000_200840_200840_040300_040300_802400_802400,
    0xC00001_C00000_C00002_C00002_C00004_C00004_100900_100900_C00008_C00008_060020_060020_0080C0_0080C0_094000_094000,
    0x000580_000580_001044_001044_001042_001042_001041_001040_540000_540000_086000_086000_008030_008030_001048_001048,
    0x222000_222000_400A00_400A00_008028_008028_001050_001050_008024_008024_810400_810400_008020_008021_008022_008022,
    0x090200_090200_920000_920000_008018_008018_001060_001060_008014_008014_200880_200880_008010_008011_008012_008012,
    0x00800C_00800C_044100_044100_008008_008009_00800A_00800A_008004_008005_008006_008006_008000_008001_008002_008003,
    0x001006_001006_001005_001004_001003_001002_001001_001000_A00200_A00200_00100C_00100C_00100A_00100A_001009_001008,
    0x114000_114000_001014_001014_001012_001012_001011_001010_080900_080900_060080_060080_008060_008060_001018_001018,
    0x042800_042800_001024_001024_001022_001022_001021_001020_024400_024400_410100_410100_008050_008050_001028_001028,
    0xC00080_C00080_280400_280400_008048_008048_001030_001030_008044_008044_102200_102200_008040_008041_008042_008042 ]

/-- `SYNROM` addresses `0x600` to `0x6FF`. -/
def synRomPage6 : List Nat :=
  [ 0x000600_000601_000602_000602_000604_000604_084800_084800_000608_000608_028080_028080_040060_040060_110100_110100,
    0x000610_000610_210040_210040_900080_900080_049000_049000_005100_005100_880020_880020_220800_220800_402200_402200,
    0x000620_000620_501000_501000_040048_040048_202080_202080_040044_040044_880010_880010_040041_040040_040042_040042,
    0x00A800_00A800_880008_880008_414000_414000_020500_020500_880002_880002_880000_880001_040050_040050_880004_880004,
    0x000640_000640_210010_210010_040028_040028_C20000_C20000_040024_040024_003800_003800_040021_040020_040022_040022,
    0x210002_210002_210001_210000_082100_082100_210004_210004_508000_508000_210008_210008_040030_040030_004480_004480,
    0x04000C_04000C_00C100_00C100_040009_040008_04000A_04000A_040005_040004_040006_040006_040001_040000_040003_040002,
    0x021080_021080_210020_210020_040018_040018_100A00_100A00_040014_040014_880040_880040_040011_040010_040012_040012,
    0x000680_000680_028008_028008_900010_900010_202020_202020_028002_028002_028001_028000_481000_481000_028004_028004,
    0x900004_900004_400900_400900_900001_900000_900002_900002_052000_052000_028010_028010_900008_900008_004440_004440,
    0x090100_090100_202004_202004_202002_202002_202000_202001_104800_104800_028020_028020_0400C0_0400C0_202008_202008,
    0x021040_021040_044200_044200_900020_900020_202010_202010_600400_600400_880080_880080_008300_008300_011800_011800,
    0x406000_406000_1C0000_1C0000_018800_018800_001300_001300_A00100_A00100_028040_028040_0400A0_0400A0_004410_004410,
    0x021020_021020_210080_210080_900040_900040_004408_004408_080A00_080A00_004404_004404_004402_004402_004400_004401,
    0x021010_021010_800C00_800C00_040088_040088_202040_202040_040084_040084_410200_410200_040081_040080_040082_040082,
    0x021000_021001_021002_021002_021004_021004_488000_488000_021008_021008_102100_102100_040090_040090_004420_004420 ]

/-- `SYNROM` addresses `0x700` to `0x7FF`. -/
def synRomPage7 : List Nat :=
  [ 0x000700_000700_842000_842000_608000_608000_110008_110008_005010_005010_110004_110004_110002_110002_110000_110001,
    0x005008_005008_400880_400880_082040_082040_020420_020420_005001_005000_005002_005002_005004_005004_110010_110010,
    0x090080_090080_00C040_00C040_801800_801800_020410_020410_422000_422000_200A00_200A00_040140_040140_110020_110020,
    0x340000_340000_020404_020404_020402_020402_020401_020400_005020_005020_880100_880100_008280_008280_020408_020408,
    0x120800_120800_00C020_00C020_082010_082010_001280_001280_A00080_A00080_480400_480400_040120_040120_110040_110040,
    0x082004_082004_210100_210100_082000_082001_082002_082002_005040_005040_060200_060200_082008_082008_808800_808800,
    0x00C002_00C002_00C000_00C001_040108_040108_00C004_00C004_040104_040104_00C008_00C008_040101_040100_040102_040102,
    0xC00200_C00200_00C010_00C010_082020_082020_020440_020440_010C00_010C00_102080_102080_040110_040110_601000_601000,
    0x090020_090020_400810_400810_064000_064000_001240_001240_A00040_A00040_028100_028100_002C00_002C00_110080_110080,
    0x400802_400802_400800_400801_900100_900100_400804_400804_005080_005080_400808_400808_008220_008220_2C0000_2C0000,
    0x090001_090000_090002_090002_090004_090004_202100_202100_090008_090008_041400_041400_008210_008210_C04000_C04000,
    0x090010_090010_400820_400820_008208_008208_020480_020480_008204_008204_102040_102040_008200_008201_008202_008202,
    0xA00008_A00008_001204_001204_001202_001202_001201_001200_A00000_A00001_A00002_A00002_A00004_A00004_001208_001208,
    0x048400_048400_400840_400840_082080_082080_001210_001210_A00010_A00010_102020_102020_430000_430000_004500_004500,
    0x090040_090040_00C080_00C080_500400_500400_001220_001220_A00020_A00020_102010_102010_040180_040180_0A0800_0A0800,
    0x021100_021100_102008_102008_204800_204800_850000_850000_102002_102002_102001_102000_008240_008240_102004_102004 ]

/-- `SYNROM` addresses `0x800` to `0x8FF`. -/
def synRomPage8 : List Nat :=
  [ 0x000800_000801_000802_000803_000804_000805_000806_000806_000808_000809_00080A_00080A_00080C_00080C_030040_030040,
    0x000810_000811_000812_000812_000814_000814_208080_208080_000818_000818_140200_140200_804020_804020_081100_081100,
    0x000820_000821_000822_000822_000824_000824_043000_043000_000828_000828_200500_200500_804010_804010_408200_408200,
    0x000830_000830_490000_490000_804008_804008_100440_100440_804004_804004_022080_022080_804001_804000_804002_804002,
    0x000840_000841_000842_000842_000844_000844_030008_030008_000848_000848_030004_030004_030002_030002_030001_030000,
    0x000850_000850_006100_006100_401200_401200_100420_100420_080480_080480_E00000_E00000_04A000_04A000_030010_030010,
    0x000860_000860_800280_800280_088100_088100_100410_100410_502000_502000_0C4000_0C4000_201080_201080_030020_030020,
    0x260000_260000_100404_100404_100402_100402_100400_100401_010300_010300_009800_009800_804040_804040_100408_100408,
    0x000880_000881_000882_000882_000884_000884_208010_208010_000888_000888_405000_405000_002300_002300_840400_840400,
    0x000890_000890_208004_208004_208002_208002_208001_208000_080440_080440_022020_022020_510000_510000_208008_208008,
    0x0008A0_0008A0_800240_800240_420400_420400_014100_014100_058000_058000_022010_022010_201040_201040_180800_180800,
    0x101100_101100_022008_022008_0C0200_0C0200_208020_208020_022002_022002_022000_022001_804080_804080_022004_022004,
    0x0008C0_0008C0_800220_800220_144000_144000_482000_482000_080410_080410_108100_108100_201020_201020_030080_030080,
    0x080408_080408_051000_051000_820100_820100_208040_208040_080401_080400_080402_080402_080404_080404_004A00_004A00,
    0x800202_800202_800201_800200_201008_201008_800204_800204_201004_201004_800208_800208_201000_201001_201002_201002,
    0x40C000_40C000_800210_800210_012800_012800_100480_100480_080420_080420_022040_022040_201010_201010_440100_440100 ]

/-- `SYNROM` addresses `0x900` to `0x9FF`. -/
def synRomPage9 : List Nat :=
  [ 0x000900_000901_000902_000902_000904_000904_D00000_D00000_000908_000908_200420_200420_002280_002280_081010_081010,
    0x000910_000910_006040_006040_050400_050400_081008_081008_428000_428000_081004_081004_081002_081002_081000_081001,
    0x000920_000920_200408_200408_088040_088040_014080_014080_200402_200402_200401_200400_160000_160000_200404_200404,
    0x101080_101080_848000_848000_602000_602000_020A00_020A00_010240_010240_200410_200410_804100_804100_081020_081020,
    0x000940_000940_006010_006010_088020_088020_240200_240200_841000_841000_108080_108080_404400_404400_030100_030100,
    0x006002_006002_006001_006000_820080_820080_006004_006004_010220_010220_006008_006008_300800_300800_081040_081040,
    0x088004_088004_421000_421000_088001_088000_088002_088002_010210_010210_200440_200440_088008_088008_802800_802800,
    0x010208_010208_006020_006020_088010_088010_100500_100500_010200_010201_010202_010202_010204_010204_440080_440080,
    0x000980_000980_0E0000_0E0000_002208_002208_014020_014020_002204_002204_108040_108040_002201_002200_002202_002202,
    0x101020_101020_400600_400600_820040_820040_208100_208100_244000_244000_810800_810800_002210_002210_081080_081080,
    0x101010_101010_014004_014004_014002_014002_014000_014001_C80000_C80000_200480_200480_002220_002220_014008_014008,
    0x101001_101000_101002_101002_101004_101004_014010_014010_101008_101008_022100_022100_008C00_008C00_440040_440040,
    0x610000_610000_108008_108008_820010_820010_001C00_001C00_108002_108002_108000_108001_002240_002240_108004_108004,
    0x820004_820004_006080_006080_820000_820001_820002_820002_080500_080500_108010_108010_820008_820008_440020_440020,
    0x042400_042400_800300_800300_088080_088080_014040_014040_024800_024800_108020_108020_201100_201100_440010_440010,
    0x101040_101040_280800_280800_820020_820020_440008_440008_010280_010280_440004_440004_440002_440002_440001_440000 ]

/-- `SYNROM` addresses `0xA00` to `0xAFF`. -/
def synRomPageA : List Nat :=
  [ 0x000A00_000A01_000A02_000A02_000A04_000A04_084400_084400_000A08_000A08_140010_140010_002180_002180_408020_408020,
    0x000A10_000A10_140008_140008_401040_401040_812000_812000_140002_140002_140001_140000_220400_220400_140004_140004,
    0x000A20_000A20_8000C0_8000C0_310000_310000_408008_408008_0A1000_0A1000_408004_408004_408002_408002_408000_408001,
    0x00A400_00A400_205000_205000_0C0080_0C0080_020900_020900_010140_010140_140020_140020_804200_804200_408010_408010,
    0x000A40_000A40_8000A0_8000A0_401010_401010_240100_240100_20C000_20C000_003400_003400_980000_980000_030200_030200,
    0x401004_401004_0A8000_0A8000_401001_401000_401002_401002_010120_010120_140040_140040_401008_401008_004880_004880,
    0x800082_800082_800081_800080_026000_026000_800084_800084_010110_010110_800088_800088_040C00_040C00_408040_408040,
    0x010108_010108_800090_800090_401020_401020_100600_100600_010100_010101_010102_010102_010104_010104_282000_282000,
    0x000A80_000A80_800060_800060_002108_002108_121000_121000_002104_002104_290000_290000_002101_002100_002102_002102,
    0x034000_034000_400500_400500_0C0020_0C0020_208200_208200_809000_809000_140080_140080_002110_002110_004840_004840,
    0x800042_800042_800041_800040_0C0010_0C0010_800044_800044_104400_104400_800048_800048_002120_002120_408080_408080,
    0x0C0004_0C0004_800050_800050_0C0000_0C0001_0C0002_0C0002_600800_600800_022200_022200_0C0008_0C0008_011400_011400,
    0x800022_800022_800021_800020_018400_018400_800024_800024_460000_460000_800028_800028_002140_002140_004810_004810,
    0x302000_302000_800030_800030_401080_401080_004808_004808_080600_080600_004804_004804_004802_004802_004800_004801,
    0x800003_800002_800001_800000_800006_800006_800005_800004_80000A_80000A_800009_800008_201200_201200_80000C_80000C,
    0x800012_800012_800011_800010_0C0040_0C0040_800014_800014_010180_010180_800018_800018_128000_128000_004820_004820 ]

/-- `SYNROM` addresses `0xB00` to `0xBFF`. -/
def synRomPageB : List Nat :=
  [ 0x000B00_000B00_019000_019000_002088_002088_240040_240040_002084_002084_824000_824000_002081_002080_002082_002082,
    0xA80000_A80000_400480_400480_10C000_10C000_020820_020820_010060_010060_140100_140100_002090_002090_081200_081200,
    0x444000_444000_182000_182000_801400_801400_020810_020810_010050_010050_200600_200600_0020A0_0020A0_408100_408100,
    0x010048_010048_020804_020804_020802_020802_020801_020800_010040_010041_010042_010042_010044_010044_020808_020808,
    0x120400_120400_240004_240004_240002_240002_240000_240001_010030_010030_480800_480800_0020C0_0020C0_240008_240008,
    0x010028_010028_006200_006200_401100_401100_240010_240010_010020_010021_010022_010022_010024_010024_808400_808400,
    0x010018_010018_800180_800180_088200_088200_240020_240020_010010_010011_010012_010012_010014_010014_105000_105000,
    0x010008_010009_01000A_01000A_01000C_01000C_020840_020840_010000_010001_010002_010003_010004_010005_010006_010006,
    0x00200C_00200C_400410_400410_002009_002008_00200A_00200A_002005_002004_002006_002006_002001_002000_002003_002002,
    0x400402_400402_400400_400401_002018_002018_400404_400404_002014_002014_400408_400408_002011_002010_002012_002012,
    0x228000_228000_800140_800140_002028_002028_014200_014200_002024_002024_041800_041800_002021_002020_002022_002022,
    0x101200_101200_400420_400420_0C0100_0C0100_020880_020880_0100C0_0100C0_08C000_08C000_002030_002030_B00000_B00000,
    0x085000_085000_800120_800120_002048_002048_240080_240080_002044_002044_108200_108200_002041_002040_002042_002042,
    0x048800_048800_400440_400440_820200_820200_190000_190000_0100A0_0100A0_221000_221000_002050_002050_004900_004900,
    0x800102_800102_800101_800100_500800_500800_800104_800104_010090_010090_800108_800108_002060_002060_0A0400_0A0400,
    0x010088_010088_800110_800110_204400_204400_00B000_00B000_010080_010081_010082_010082_010084_010084_440200_440200 ]

/-- `SYNROM` addresses `0xC00` to `0xCFF`. -/
def synRomPageC : List Nat :=
  [ 0x000C00_000C01_000C02_000C02_000C04_000C04_084200_084200_000C08_000C08_200120_200120_109000_109000_840080_840080,
    0x000C10_000C10_821000_821000_050100_050100_100060_100060_0800C0_0800C0_01C000_01C000_220200_220200_402800_402800,
    0x000C20_000C20_200108_200108_420080_420080_100050_100050_200102_200102_200101_200100_092000_092000_200104_200104,
    0x00A200_00A200_100044_100044_100042_100042_100040_100041_441000_441000_200110_200110_804400_804400_100048_100048,
    0x000C40_000C40_448000_448000_A02000_A02000_100030_100030_080090_080090_003200_003200_404100_404100_030400_030400,
    0x080088_080088_100024_100024_100022_100022_100020_100021_080081_080080_080082_080082_080084_080084_100028_100028,
    0x015000_015000_100014_100014_100012_100012_100010_100011_828000_828000_200140_200140_040A00_040A00_100018_100018,
    0x100006_100006_100004_100005_100002_100003_100000_100001_0800A0_0800A0_10000C_10000C_10000A_10000A_100008_100009,
    0x000C80_000C80_112000_112000_420020_420020_840008_840008_080050_080050_840004_840004_840002_840002_840000_840001,
    0x080048_080048_400300_400300_007000_007000_208400_208400_080041_080040_080042_080042_080044_080044_840010_840010,
    0x420004_420004_089000_089000_420001_420000_420002_420002_104200_104200_200180_200180_420008_420008_840020_840020,
    0xA10000_A10000_044800_044800_420010_420010_1000C0_1000C0_080060_080060_022400_022400_008900_008900_011200_011200,
    0x080018_080018_224000_224000_018200_018200_001900_001900_080011_080010_080012_080012_080014_080014_840040_840040,
    0x080009_080008_08000A_08000A_08000C_08000C_1000A0_1000A0_080001_080000_080003_080002_080005_080004_080006_080006,
    0x042100_042100_800600_800600_420040_420040_100090_100090_080030_080030_410800_410800_201400_201400_00E000_00E000,
    0x080028_080028_100084_100084_100082_100082_100080_100081_080021_080020_080022_080022_080024_080024_100088_100088 ]

/-- `SYNROM` addresses `0xD00` to `0xDFF`. -/
def synRomPageD : List Nat :=
  [ 0x000D00_000D00_200028_200028_050010_050010_02A000_02A000_200022_200022_200021_200020_404040_404040_200024_200024,
    0x050004_050004_400280_400280_050001_050000_050002_050002_902000_902000_200030_200030_050008_050008_081400_081400,
    0x20000A_20000A_200009_200008_801200_801200_20000C_20000C_200003_200002_200001_200000_200006_200006_200005_200004,
    0x0A4000_0A4000_200018_200018_050020_050020_100140_100140_200012_200012_200011_200010_008880_008880_200014_200014,
    0x120200_120200_890000_890000_404008_404008_001880_001880_404004_404004_200060_200060_404000_404001_404002_404002,
    0x209000_209000_006400_006400_050040_050040_100120_100120_080180_080180_060800_060800_404010_404010_808200_808200,
    0x042080_042080_200048_200048_088400_088400_100110_100110_200042_200042_200041_200040_404020_404020_200044_200044,
    0xC00800_C00800_100104_100104_100102_100102_100100_100101_010600_010600_200050_200050_023000_023000_100108_100108,
    0x80C000_80C000_400210_400210_380000_380000_001840_001840_031000_031000_2000A0_2000A0_002600_002600_840100_840100,
    0x400202_400202_400200_400201_050080_050080_400204_400204_080140_080140_400208_400208_008820_008820_124000_124000,
    0x042040_042040_200088_200088_420100_420100_014400_014400_200082_200082_200081_200080_008810_008810_200084_200084,
    0x101400_101400_400220_400220_008808_008808_882000_882000_008804_008804_200090_200090_008800_008801_008802_008802,
    0x042020_042020_001804_001804_001802_001802_001801_001800_080110_080110_108400_108400_404080_404080_001808_001808,
    0x080108_080108_400240_400240_820400_820400_001810_001810_080101_080100_080102_080102_080104_080104_212000_212000,
    0x042000_042001_042002_042002_042004_042004_001820_001820_042008_042008_2000C0_2000C0_910000_910000_0A0200_0A0200,
    0x042010_042010_038000_038000_204200_204200_100180_100180_080120_080120_805000_805000_008840_008840_440400_440400 ]

/-- `SYNROM` addresses `0xE00` to `0xEFF`. -/
def synRomPageE : List Nat :=
  [ 0x000E00_000E00_084004_084004_084002_084002_084001_084000_C10000_C10000_003040_003040_220010_220010_084008_084008,
    0x00A020_00A020_400180_400180_220008_220008_084010_084010_220004_220004_140400_140400_220000_220001_220002_220002,
    0x00A010_00A010_070000_070000_801100_801100_084020_084020_104080_104080_200300_200300_040840_040840_408400_408400,
    0x00A001_00A000_00A002_00A002_00A004_00A004_100240_100240_00A008_00A008_880800_880800_220020_220020_011080_011080,
    0x120100_120100_003008_003008_018080_018080_084040_084040_003002_003002_003000_003001_040820_040820_003004_003004,
    0x844000_844000_210800_210800_401400_401400_100220_100220_080280_080280_003010_003010_220040_220040_808100_808100,
    0x680000_680000_800480_800480_040808_040808_100210_100210_040804_040804_003020_003020_040801_040800_040802_040802,
    0x00A040_00A040_100204_100204_100202_100202_100200_100201_010500_010500_424000_424000_040810_040810_100208_100208,
    0x241000_241000_400110_400110_018040_018040_084080_084080_104020_104020_028800_028800_002500_002500_840200_840200,
    0x400102_400102_400100_400101_900800_900800_400104_400104_080240_080240_400108_400108_220080_220080_011020_011020,
    0x104008_104008_800440_800440_420200_420200_202800_202800_104000_104001_104002_104002_104004_104004_011010_011010,
    0x00A080_00A080_400120_400120_0C0400_0C0400_011008_011008_104010_104010_011004_011004_011002_011002_011001_011000,
    0x018004_018004_800420_800420_018000_018001_018002_018002_080210_080210_003080_003080_018008_018008_700000_700000,
    0x080208_080208_400140_400140_018010_018010_062000_062000_080201_080200_080202_080202_080204_080204_004C00_004C00,
    0x800402_800402_800401_800400_018020_018020_800404_800404_104040_104040_800408_800408_040880_040880_0A0100_0A0100,
    0x021800_021800_800410_800410_204100_204100_100280_100280_080220_080220_248000_248000_C02000_C02000_011040_011040 ]

/-- `SYNROM` addresses `0xF00` to `0xFFF`. -/
def synRomPageF : List Nat :=
  [ 0x120040_120040_400090_400090_801020_801020_084100_084100_0C8000_0C8000_200220_200220_002480_002480_110800_110800,
    0x400082_400082_400080_400081_050200_050200_400084_400084_005800_005800_400088_400088_220100_220100_808040_808040,
    0x801004_801004_200208_200208_801000_801001_801002_801002_200202_200202_200201_200200_801008_801008_200204_200204,
    0x00A100_00A100_4000A0_4000A0_801010_801010_020C00_020C00_010440_010440_200210_200210_580000_580000_046000_046000,
    0x120001_120000_120002_120002_120004_120004_240400_240400_120008_120008_003100_003100_404200_404200_808010_808010,
    0x120010_120010_4000C0_4000C0_082800_082800_808008_808008_010420_010420_808004_808004_808002_808002_808001_808000,
    0x120020_120020_00C800_00C800_801040_801040_412000_412000_010410_010410_200240_200240_040900_040900_0A0080_0A0080,
    0x010408_010408_0C1000_0C1000_204080_204080_100300_100300_010400_010401_010402_010402_010404_010404_808020_808020,
    0x400012_400012_400010_400011_002408_002408_400014_400014_002404_002404_400018_400018_002401_002400_002402_002402,
    0x400002_400003_400000_400001_400006_400006_400004_400005_40000A_40000A_400008_400009_002410_002410_40000C_40000C,
    0x090800_090800_400030_400030_801080_801080_148000_148000_104100_104100_200280_200280_002420_002420_0A0040_0A0040,
    0x400022_400022_400020_400021_204040_204040_400024_400024_860000_860000_400028_400028_008A00_008A00_011100_011100,
    0x120080_120080_400050_400050_018100_018100_001A00_001A00_A00800_A00800_054000_054000_002440_002440_0A0020_0A0020,
    0x400042_400042_400040_400041_204020_204020_400044_400044_080300_080300_400048_400048_141000_141000_808080_808080,
    0x042200_042200_800500_800500_204010_204010_0A0008_0A0008_409000_409000_0A0004_0A0004_0A0002_0A0002_0A0000_0A0001,
    0x204004_204004_400060_400060_204001_204000_204002_204002_010480_010480_102800_102800_204008_204008_0A0010_0A0010 ]

/-- The sixteen pages, lowest addresses first. -/
def synRomPages : List (List Nat) :=
  [synRomPage0, synRomPage1, synRomPage2, synRomPage3, synRomPage4, synRomPage5, synRomPage6, synRomPage7] ++
  [synRomPage8, synRomPage9, synRomPageA, synRomPageB, synRomPageC, synRomPageD, synRomPageE, synRomPageF]

/-- The row of 16 words that holds address `z` (R150: row `z div 16`). -/
def synRomRow (z : Nat) : Nat := (synRomPages.getD (z / 256) []).getD (z / 16 % 16) 0

/-- `MemRead(SYNROM, z)`: the 24-bit word at address `z`, column `z mod 16` of its row (R150). A read has
no side effect (20_memory.md R43). -/
def synRom (z : BitVec 12) : Codeword :=
  BitVec.ofNat 24 (synRomRow z.toNat >>> (24 * (15 - z.toNat % 16)))

end Sys2Proof.Machine
end

