-- ==== Sys2Proof/Machine/Golay.lean ====
section
/-!
DEFINITION. The Golay transform (41_golay_transform.md): the parity matrix, `encodeSymbol`, the syndrome,
and `decodeSymbol` by syndrome lookup. Arithmetic is over GF(2) on fixed widths (R106).
The values of the matrix, the layout and the table are the spec's decisions D5 to D8 (logs 5, 15).
-/

namespace Sys2Proof.Machine

/-- The matrix `B`: `B[i]` for symbol bit `i`, from `i = 0` (R90). -/
def parityRows : List Symbol :=
  [0x5C7#12, 0xB8D#12, 0x2DE#12, 0x5BC#12, 0xB78#12, 0x337#12,
   0x66D#12, 0xCD9#12, 0xC76#12, 0xD2B#12, 0xF92#12, 0xAE3#12]

/-- The exclusive-or of the rows that the bits of `s` select, the first row by bit `i`. -/
def xorRows (s : Symbol) : Nat → List Symbol → Symbol
  | _, [] => 0#12
  | i, row :: rest => (if s.getLsbD i then row else 0#12) ^^^ xorRows s (i + 1) rest

/-- `par12(s)`: the exclusive-or of `B[i]` over the `i` with `s[i] = 1` (R91). -/
def par12 (s : Symbol) : Symbol := xorRows s 0 parityRows

/-- `encodeSymbol(s) = enc24(s) = s ++ par12(s)` (R92): data in bits 23:12, parity in bits 11:0 (R93). -/
def enc24 (s : Symbol) : Codeword := s ++ par12 s

/-- The data bits `c[23:12]` (R93). -/
def dataBits (c : Codeword) : Symbol := c.extractLsb' 12 12

/-- The parity bits `c[11:0]` (R93). -/
def parityBits (c : Codeword) : Symbol := c.extractLsb' 0 12

/-- `syn(c) = par12(c[23:12]) ^ c[11:0]` (R95), 12 bits (90_conflicts.md C1). -/
def syn (c : Codeword) : BitVec 12 := par12 (dataBits c) ^^^ parityBits c

/-- `decodeSymbol` with a given table of error patterns (R98): the corrected symbol and the weight of the
correction. The table is an argument so that claims can be made for every table that R96 allows (93 U1). -/
def dec24With (table : BitVec 12 → Codeword) (c : Codeword) : Symbol × Nat :=
  (dataBits (c ^^^ table (syn c)), popcount (table (syn c)))

/-- `decodeSymbol(c) = dec24(c) = (s, k)` with the block's `SYNROM` (R98). -/
def dec24 (c : Codeword) : Symbol × Nat := dec24With synRom c

end Sys2Proof.Machine
end

