-- ==== Sys2Proof/Machine/Codec.lean ====
section
/-!
DEFINITION. Codewords as bytes (20_memory.md R34, R35), the level F entry points `encode` and `decode`
(42_codec_commands.md R120, R121), and the expansions of the pseudo-commands (30_encoding.md R60).
-/

namespace Sys2Proof.Machine

/-- The three bytes of a codeword, most significant first (R34). -/
def codewordBytes (c : Codeword) : List Byte :=
  [c.extractLsb' 16 8, c.extractLsb' 8 8, c.extractLsb' 0 8]

/-- The complete groups of a byte sequence as words, first byte most significant; a final incomplete group
is ignored (R35, R38, R121). -/
def groupWords : List Byte → List Codeword
  | a :: b :: c :: rest => (a ++ b ++ c) :: groupWords rest
  | _ => []

/-- `encode(P) = (E, L)` (R120). -/
def encodePayload (p : List Byte) : List Byte × Nat :=
  ((split p).flatMap fun s => codewordBytes (enc24 s), 3 * (split p).length)

/-- `decode(E) = (Q, total)` (R121). -/
def decodeStream (e : List Byte) : List Byte × Nat :=
  (join ((groupWords e).map fun c => (dec24 c).1), ((groupWords e).map fun c => (dec24 c).2).sum)

/-- The pseudo-command `ENCODE b0 .. b(n-1)` (R60). -/
def encodeCommands (p : List Byte) : List Instr := p.map .encb ++ [.encend]

/-- The pseudo-command `DECODE b0 .. b(n-1)` (R60). -/
def decodeCommands (e : List Byte) : List Instr := e.map .decb ++ [.decend]

end Sys2Proof.Machine
end

