-- ==== Sys2Proof/Machine/DecodePath.lean ====
section
/-!
DEFINITION. The decode-path commands DECB and DECEND (42_codec_commands.md R126, R127).
-/

namespace Sys2Proof.Machine

/-- The third byte of a group: decodes the word, adds the count modulo `2^ERRW`, empties the group and
emits the bytes that the join unit completes (R126, case `D_GN = 2`). -/
def decodeGroup (c : Codeword) (s : State) : Host.Outcome State Fault Refusal :=
  match joinPush (dec24 c).1 s with
  | .error r => .refused r
  | .ok (bytes, s1) =>
    .next (((s1.setDErr (s1.dErr + BitVec.ofNat Config.errw (dec24 c).2)).setGroup 0#16 0#2).emitDec bytes)

/-- DECB (R126): pushes one received byte. The refusal is for `D_GN = 3`, which R126 has no case for (log
6). -/
def execDecb (b : Byte) (s : State) : Host.Outcome State Fault Refusal :=
  if s.dGn = 0#2 then .next (s.setGroup (b ++ 0#8) 1#2)
  else if s.dGn = 1#2 then .next (s.setGroup (s.dGrp.extractLsb' 8 8 ++ b) 2#2)
  else if s.dGn = 2#2 then decodeGroup (s.dGrp ++ b) s
  else .refused .groupPhaseNotCovered

/-- DECEND (R127): reports `totalErrorsCorrected` in `RES`, drops an incomplete group and the pending 4
bits, clears the path. -/
def execDecend (s : State) : Host.Outcome State Fault Refusal :=
  .next ((joinFlush ((s.setRes (s.dErr.setWidth 32)).setGroup 0#16 0#2)).setDErr 0)

end Sys2Proof.Machine
end

