-- ==== Sys2Proof/Machine/EncodePath.lean ====
section
/-!
DEFINITION. The encode-path commands ENCB and ENCEND (42_codec_commands.md R124, R125).
-/

namespace Sys2Proof.Machine

/-- Encodes a completed symbol, if there is one: its three bytes go to `ENC_OUT` and `E_LEN` grows by 3
modulo `2^LENW` (R124, R125). -/
def emitSymbol (sym : Option Symbol) (s : State) : State :=
  match sym with
  | none => s
  | some x => (s.emitEnc (codewordBytes (enc24 x))).setELen (s.eLen + 3)

/-- ENCB (R124): pushes one payload byte; the second and third byte of every three complete a symbol. -/
def execEncb (b : Byte) (s : State) : Host.Outcome State Fault Refusal :=
  match splitPush b s with
  | .error r => .refused r
  | .ok (sym, s1) => .next (emitSymbol sym s1)

/-- `RES <- zext_32(E_LEN)`, then `E_LEN <- 0` (R125, after the flush). -/
def reportLength (s : State) : State := (s.setRes (s.eLen.setWidth 32)).setELen 0

/-- ENCEND (R125): flushes the zero-padded last symbol, reports `logicalLength` in `RES`, clears the path. -/
def execEncend (s : State) : Host.Outcome State Fault Refusal :=
  match splitFlush s with
  | .error r => .refused r
  | .ok (sym, s1) => .next (reportLength (emitSymbol sym s1))

end Sys2Proof.Machine
end

