-- ==== Sys2Proof/Machine/SymbolCommands.lean ====
section
/-!
DEFINITION. The commands that touch neither path: NOP (42_codec_commands.md R123), ENCSYM and DECSYM
(41_golay_transform.md R104, R105).
-/

namespace Sys2Proof.Machine

/-- NOP (R123): reads nothing, writes nothing, emits nothing. -/
def execNop (s : State) : Host.Outcome State Fault Refusal := .next s

/-- ENCSYM (R104): `RES <- zext_32(enc24(s))`. -/
def execEncsym (sym : Symbol) (s : State) : Host.Outcome State Fault Refusal :=
  .next (s.setRes ((enc24 sym).setWidth 32))

/-- The `RES` layout of DECSYM (30_encoding.md R57): `k` in bits 13:12, the symbol in bits 11:0. -/
def decsymResult (r : Symbol × Nat) : BitVec 32 := (BitVec.ofNat 2 r.2 ++ r.1).setWidth 32

/-- DECSYM (R105): `RES <- zext_32(k[1:0] ++ s)` with `(s, k) = dec24(c)`. -/
def execDecsym (c : Codeword) (s : State) : Host.Outcome State Fault Refusal :=
  .next (s.setRes (decsymResult (dec24 c)))

end Sys2Proof.Machine
end

