-- ==== Sys2Proof/Machine/Dispatch.lean ====
section
/-! DEFINITION. The meaning of every command: one arm per constructor of Instr (30_encoding.md R51). -/

namespace Sys2Proof.Machine

def exec (i : Instr) (s : State) : Host.Outcome State Fault Refusal :=
  match i with
  | .nop => Sys2Proof.Machine.execNop s
  | .encsym sym => Sys2Proof.Machine.execEncsym sym s
  | .decsym c => Sys2Proof.Machine.execDecsym c s
  | .encb b => Sys2Proof.Machine.execEncb b s
  | .encend => Sys2Proof.Machine.execEncend s
  | .decb b => Sys2Proof.Machine.execDecb b s
  | .decend => Sys2Proof.Machine.execDecend s

end Sys2Proof.Machine
end

