-- ==== Sys2Proof/Machine/Present.lean ====
section
/-!
DEFINITION. What the block does with what the host presents in one step (30_encoding.md R50, R51;
60_exceptions.md R163; 70_reset_and_hazards.md R180, R181).
-/

namespace Sys2Proof.Machine

/-- Executes one command word: a legal word runs its command, an illegal one raises IllegalCommand and the
block carries on (R51, R128, R163; log 8). -/
def execWord (w : CommandWord) (s : State) : Host.Outcome State Fault Refusal :=
  match decode w with
  | .ok i => exec i s
  | .error _ => .next (raiseIllegalCommand s)

/-- One event of the host. A reset presented with a command wins: the command is not executed (R181). -/
def present (e : HostEvent) (s : State) : Host.Outcome State Fault Refusal :=
  match e with
  | .command w => execWord w s
  | .reset => .next (applyReset s)
  | .resetAndCommand _ => .next (applyReset s)

/-- A step in which the host presents nothing: nothing changes. DESIGN CHOICE (log 2); safe. -/
def idle (s : State) : Host.Outcome State Fault Refusal := .next s

/-- Takes the oldest event off the command stream and performs it; each word is read once (20_memory.md
R30). -/
def takeEvent (s : State) : Host.Outcome State Fault Refusal :=
  match s.input with
  | [] => idle s
  | e :: rest => present e (s.setInput rest)

/-- The host presents this command word next, before anything still in the stream. -/
def presentNext (w : CommandWord) (s : State) : State := s.setInput (.command w :: s.input)

end Sys2Proof.Machine
end

