-- ==== Sys2Proof/Machine/Step.lean ====
section
/-!
DEFINITION. One step of the block: one event of the host, to completion (20_memory.md R42, R45).
-/

namespace Sys2Proof.Machine

/-- One step. -/
def step (s : State) : Host.Outcome State Fault Refusal := takeEvent s

/-- `s` with the command word of the bits `w` presented next, so that `step` runs exactly it (log 2); `s`
itself when the bits are no 27-bit word (log 17). -/
def State.withFetchWord (s : State) (nbits w : Nat) : State :=
  match tableCommandWord nbits w with
  | some word => presentNext word s
  | none => s

end Sys2Proof.Machine
end

