-- ==== Sys2Proof/Machine/Assembler.lean ====
section
/-!
DEFINITION. The assembler text of 30_encoding.md R59 and R60: one command per line, the pseudo-commands
ENCODE and DECODE, `.word`, and comments; and a printer. It is notation and no part of a step. How
characters are grouped into tokens is the model's choice (log 18).
-/

namespace Sys2Proof.Machine

/-- A piece of a line: a run of characters, or the inside of a pair of double quotes. -/
inductive Token
  | word (cs : List Char)
  | text (cs : List Char)
deriving DecidableEq, Repr

/-- The double quote. -/
def quoteChar : Char := Char.ofNat 34

/-- Puts the characters read so far (last first) before the tokens that follow, if there are any. -/
def flushToken (cur : List Char) (rest : List Token) : List Token :=
  if cur = [] then rest else .word cur.reverse :: rest

/-- The tokens of a line up to its comment; none when a quote is left open. -/
def tokens : (cur : List Char) → (quoted : Bool) → List Char → Option (List Token)
  | cur, false, [] => some (flushToken cur [])
  | _, true, [] => none
  | cur, true, c :: cs =>
    if c = quoteChar then (tokens [] false cs).map (.text cur.reverse :: ·) else tokens (c :: cur) true cs
  | cur, false, c :: cs =>
    if c = ';' then some (flushToken cur [])
    else if c = ' ' then (tokens [] false cs).map (flushToken cur)
    else if c = quoteChar then (tokens [] true cs).map (flushToken cur)
    else tokens (c :: cur) false cs

/-- The value of a hexadecimal digit. -/
def hexDigit (c : Char) : Option Nat :=
  if 48 ≤ c.toNat ∧ c.toNat ≤ 57 then some (c.toNat - 48)
  else if 65 ≤ c.toNat ∧ c.toNat ≤ 70 then some (c.toNat - 55)
  else if 97 ≤ c.toNat ∧ c.toNat ≤ 102 then some (c.toNat - 87)
  else none

/-- The value of some hexadecimal digits after `acc`. -/
def hexFrom (acc : Nat) : List Char → Option Nat
  | [] => some acc
  | c :: cs => (hexDigit c).bind fun d => hexFrom (16 * acc + d) cs

/-- A hexadecimal literal with `0x` and at least one digit (R59). -/
def hexLiteral : List Char → Option Nat
  | '0' :: 'x' :: d :: ds => hexFrom 0 (d :: ds)
  | _ => none

/-- A value that fits in `w` bits; one that does not is an assembly error (R59). -/
def fitOperand (w n : Nat) : Option (BitVec w) := if n < 2 ^ w then some (BitVec.ofNat w n) else none

/-- The command of a mnemonic and its operand, if the two go together and the operand fits (R59). -/
def assembleCommand (mnemonic : List Char) (operand : Option Nat) : Option Instr :=
  match operand with
  | none =>
    if mnemonic = "NOP".toList then some .nop
    else if mnemonic = "ENCEND".toList then some .encend
    else if mnemonic = "DECEND".toList then some .decend
    else none
  | some n =>
    if mnemonic = "ENCSYM".toList then (fitOperand 12 n).map .encsym
    else if mnemonic = "DECSYM".toList then (fitOperand 24 n).map .decsym
    else if mnemonic = "ENCB".toList then (fitOperand 8 n).map .encb
    else if mnemonic = "DECB".toList then (fitOperand 8 n).map .decb
    else none

/-- The bytes of one operand of a pseudo-command: two hexadecimal digits, a literal, or a string of ASCII
characters (R60). -/
def tokenBytes : Token → Option (List Byte)
  | .word [c, d] => (hexFrom 0 [c, d]).bind fun n => (fitOperand 8 n).map ([·])
  | .word cs => (hexLiteral cs).bind fun n => (fitOperand 8 n).map ([·])
  | .text cs => cs.mapM fun c => if c.toNat < 128 then some (BitVec.ofNat 8 c.toNat) else none

/-- The bytes of all the operands of a pseudo-command, in order (R60). -/
def operandBytes (ts : List Token) : Option (List Byte) := (ts.mapM tokenBytes).map List.flatten

/-- The one hexadecimal literal that follows a mnemonic. -/
def literalOperand : List Token → Option Nat
  | [.word cs] => hexLiteral cs
  | _ => none

/-- The command words of one line (R59, R60); a blank line or a comment gives none of them, and none at all
is an assembly error. -/
def assembleLine (line : List Char) : Option (List CommandWord) :=
  match tokens [] false line with
  | none => none
  | some [] => some []
  | some (.text _ :: _) => none
  | some (.word m :: rest) =>
    if m = ".word".toList then (literalOperand rest).bind fun n => (fitOperand 27 n).map ([·])
    else if m = "ENCODE".toList then (operandBytes rest).map fun p => (encodeCommands p).map encode
    else if m = "DECODE".toList then (operandBytes rest).map fun e => (decodeCommands e).map encode
    else if rest = [] then (assembleCommand m none).map fun i => [encode i]
    else (literalOperand rest).bind fun n => (assembleCommand m (some n)).map fun i => [encode i]

/-- A hexadecimal digit, capital. -/
def hexChar (n : Nat) : Char := "0123456789ABCDEF".toList.getD n '0'

/-- `n` as a literal with `0x` and the given number of digits. -/
def renderHex (digits n : Nat) : List Char :=
  '0' :: 'x' :: (List.range digits).map fun k => hexChar (n / 16 ^ (digits - 1 - k) % 16)

/-- The line of a command, operands at the width of their form (R59). -/
def renderInstr : Instr → List Char
  | .nop => "NOP".toList
  | .encsym s => "ENCSYM ".toList ++ renderHex 3 s.toNat
  | .decsym c => "DECSYM ".toList ++ renderHex 6 c.toNat
  | .encb b => "ENCB ".toList ++ renderHex 2 b.toNat
  | .encend => "ENCEND".toList
  | .decb b => "DECB ".toList ++ renderHex 2 b.toNat
  | .decend => "DECEND".toList

end Sys2Proof.Machine
end

