-- ==== Sys2Proof/Machine/Flags.lean ====
section
/-!
DEFINITION. What the host sees of the flags: the `STATUS` view (10_state.md R20) and the cause code of the
one fault (60_exceptions.md R162). `ILL` is the only flag; no command reads it.
-/

namespace Sys2Proof.Machine

/-- `E_BUSY`: the encode path holds pending bits (R20). -/
def eBusy (s : State) : Bool := s.eCnt != 0#4

/-- `D_BUSY`: the decode path holds a partial group or a pending nibble (R20). -/
def dBusy (s : State) : Bool := s.dGn != 0#2 || s.dAn != 0#3

/-- `STATUS` (R20): bit 0 `ILL`, bit 1 `E_BUSY`, bit 2 `D_BUSY`, bits 7:3 read as 0. -/
def status (s : State) : BitVec 8 :=
  0#5 ++ BitVec.ofBool (dBusy s) ++ BitVec.ofBool (eBusy s) ++ BitVec.ofBool s.ill

/-- The cause code: 1 is IllegalCommand, 0 no fault since reset (R162). -/
def faultCause (s : State) : Nat := if s.ill then 1 else 0

end Sys2Proof.Machine
end

