-- ==== Sys2Proof/Safety.lean ====
section
/-!
DEFINITION. The terms claims are stated in: the invariant of reachable states (10_state.md R23), several
steps in a row, and the part of the state each path owns (20_memory.md R46).
-/

namespace Sys2Proof.Machine

/-- The three clauses of R23 about the split unit's registers. -/
abbrev State.EncodeInv (s : State) : Prop :=
  (s.eCnt = 0#4 ∨ s.eCnt = 4#4 ∨ s.eCnt = 8#4) ∧
  (s.eCnt = 0#4 → s.eAcc = 0#8) ∧
  (s.eCnt = 4#4 → s.eAcc.extractLsb' 4 4 = 0#4)

/-- The five clauses of R23 about the decode path's registers. -/
abbrev State.DecodeInv (s : State) : Prop :=
  (s.dGn = 0#2 ∨ s.dGn = 1#2 ∨ s.dGn = 2#2) ∧
  (s.dGn = 0#2 → s.dGrp = 0#16) ∧
  (s.dGn = 1#2 → s.dGrp.extractLsb' 0 8 = 0#8) ∧
  (s.dAn = 0#3 ∨ s.dAn = 4#3) ∧
  (s.dAn = 0#3 → s.dAcc = 0#4)

/-- The eight clauses of R23, which every state reachable from reset meets. -/
abbrev State.Inv (s : State) : Prop := s.EncodeInv ∧ s.DecodeInv

/-- `n` steps, stopping at the first refusal. -/
def stepN : Nat → State → Host.Outcome State Fault Refusal
  | 0, s => .next s
  | n + 1, s =>
    match step s with
    | .next t => stepN n t
    | .fault r => .fault r
    | .refused r => .refused r

/-- The commands that own the encode path (R46). -/
def onEncodePath : Instr → Bool
  | .encb _ | .encend => true
  | .nop | .encsym _ | .decsym _ | .decb _ | .decend => false

/-- The commands that own the decode path (R46). -/
def onDecodePath : Instr → Bool
  | .decb _ | .decend => true
  | .nop | .encsym _ | .decsym _ | .encb _ | .encend => false

/-- The legal commands among some words, in order, that a path owns: what the other words are does not
matter to the path (R46, R129, R130). -/
def pathCommands (onPath : Instr → Bool) (ws : List CommandWord) : List Instr :=
  (ws.filterMap fun w => (decode w).toOption).filter onPath

/-- The two states agree on everything an encode-path command reads or writes but `RES` (R46). -/
abbrev State.SameEncodePath (s t : State) : Prop :=
  s.eAcc = t.eAcc ∧ s.eCnt = t.eCnt ∧ s.eLen = t.eLen ∧ s.encOut = t.encOut

/-- The two states agree on everything a decode-path command reads or writes but `RES` (R46). -/
abbrev State.SameDecodePath (s t : State) : Prop :=
  s.dGrp = t.dGrp ∧ s.dGn = t.dGn ∧ s.dAcc = t.dAcc ∧ s.dAn = t.dAn ∧ s.dErr = t.dErr ∧
    s.decOut = t.decOut

/-- The symbols that pushing some bytes completes, in order, and the state after (R80). -/
def splitPushAll : List Byte → State → Except Refusal (List Symbol × State)
  | [], s => .ok ([], s)
  | b :: bs, s =>
    match splitPush b s with
    | .error r => .error r
    | .ok (sym, s1) =>
      match splitPushAll bs s1 with
      | .error r => .error r
      | .ok (syms, s2) => .ok (sym.toList ++ syms, s2)

/-- The bytes that pushing some symbols completes, in order, and the state after (R83). -/
def joinPushAll : List Symbol → State → Except Refusal (List Byte × State)
  | [], s => .ok ([], s)
  | x :: xs, s =>
    match joinPush x s with
    | .error r => .error r
    | .ok (bytes, s1) =>
      match joinPushAll xs s1 with
      | .error r => .error r
      | .ok (more, s2) => .ok (bytes ++ more, s2)

/-- All 4096 symbols, which are all 4096 syndromes too. -/
def allSymbols : List Symbol := (List.range 4096).map (BitVec.ofNat 12)

/-- The column masks `M[j]` of R91, from `j = 0`. -/
def columnMasks : List Symbol :=
  [0xAE3#12, 0xF25#12, 0x16F#12, 0x2DE#12, 0x5BC#12, 0xB78#12,
   0x9D5#12, 0xC8F#12, 0x63B#12, 0xC76#12, 0x7C9#12, 0xF92#12]

end Sys2Proof.Machine
end

