-- ==== Sys2Proof/Certificates/Slice0/Obligations.lean ====
section
/-!
DEFINITION. The statements for the provers. Each docstring names the rules of spec/ it formalises. No
statement rests on a state being reachable; where one could fail only in states that no run reaches, the
invariant of 10_state.md R23 stands as a premise.
-/

open Sys2Proof Sys2Proof.Machine

/-! ## Encoding -/

/-- 30_encoding.md sections 1 to 3: no bit of an encoding is dropped, at any value of any operand, and the
word of a command is well formed. -/
def Obligations.DecodeOfEncodeIsTheInstruction : Prop :=
  ∀ i : Instr, decode (encode i) = .ok i ∧ wellFormedWord (encode i) = true

/-- 30_encoding.md sections 1 to 3: a legal word is the encoding of the one command it decodes to, and the
legal words are the well-formed ones. -/
def Obligations.EncodeOfDecodeIsTheWord : Prop :=
  (∀ (w : CommandWord) (i : Instr), decode w = .ok i → encode i = w) ∧
  (∀ w : CommandWord, wellFormedWord w = true ↔ ∃ i, decode w = .ok i)

/-- R55: the mask and match table says which command a word is; a word that matches no row is illegal; the
numbers of words per command are those of the rule, and no word is two commands (decode answers one). -/
def Obligations.CommandsFollowTheMaskAndMatchTable : Prop :=
  (∀ w : CommandWord,
    (decode w = .ok .nop ↔ w &&& 0x7FFFFFF#27 = 0x0000000#27) ∧
    ((∃ s, decode w = .ok (.encsym s)) ↔ w &&& 0x7FFF000#27 = 0x1000000#27) ∧
    ((∃ c, decode w = .ok (.decsym c)) ↔ w &&& 0x7000000#27 = 0x2000000#27) ∧
    ((∃ b, decode w = .ok (.encb b)) ↔ w &&& 0x7FFFF00#27 = 0x3000000#27) ∧
    (decode w = .ok .encend ↔ w &&& 0x7FFFFFF#27 = 0x4000000#27) ∧
    ((∃ b, decode w = .ok (.decb b)) ↔ w &&& 0x7FFFF00#27 = 0x5000000#27) ∧
    (decode w = .ok .decend ↔ w &&& 0x7FFFFFF#27 = 0x6000000#27) ∧
    ((∃ e, decode w = .error e) ↔
      w &&& 0x7FFFFFF#27 ≠ 0x0000000#27 ∧ w &&& 0x7FFF000#27 ≠ 0x1000000#27 ∧
      w &&& 0x7000000#27 ≠ 0x2000000#27 ∧ w &&& 0x7FFFF00#27 ≠ 0x3000000#27 ∧
      w &&& 0x7FFFFFF#27 ≠ 0x4000000#27 ∧ w &&& 0x7FFFF00#27 ≠ 0x5000000#27 ∧
      w &&& 0x7FFFFFF#27 ≠ 0x6000000#27)) ∧
  {w : CommandWord | decode w = .ok .nop}.ncard = 1 ∧
  {w : CommandWord | ∃ s, decode w = .ok (.encsym s)}.ncard = 2 ^ 12 ∧
  {w : CommandWord | ∃ c, decode w = .ok (.decsym c)}.ncard = 2 ^ 24 ∧
  {w : CommandWord | ∃ b, decode w = .ok (.encb b)}.ncard = 2 ^ 8 ∧
  {w : CommandWord | decode w = .ok .encend}.ncard = 1 ∧
  {w : CommandWord | ∃ b, decode w = .ok (.decb b)}.ncard = 2 ^ 8 ∧
  {w : CommandWord | decode w = .ok .decend}.ncard = 1 ∧
  {w : CommandWord | ∃ e, decode w = .error e}.ncard = 2 ^ 27 - 16781827

/-- R162: the cause of IllegalCommand, op by op; it depends on the word alone, it records nothing of it, and
its cause code is 1. -/
def Obligations.IllegalCommandHasExactlyTheseCauses : Prop :=
  (∀ w : CommandWord, (∃ e, decode w = .error e) ↔
    (w.extractLsb' 24 3 = 7#3 ∨
     (w.extractLsb' 24 3 = 0#3 ∧ w.extractLsb' 0 24 ≠ 0#24) ∨
     (w.extractLsb' 24 3 = 1#3 ∧ w.extractLsb' 12 12 ≠ 0#12) ∨
     (w.extractLsb' 24 3 = 3#3 ∧ w.extractLsb' 8 16 ≠ 0#16) ∨
     (w.extractLsb' 24 3 = 4#3 ∧ w.extractLsb' 0 24 ≠ 0#24) ∨
     (w.extractLsb' 24 3 = 5#3 ∧ w.extractLsb' 8 16 ≠ 0#16) ∨
     (w.extractLsb' 24 3 = 6#3 ∧ w.extractLsb' 0 24 ≠ 0#24))) ∧
  (∀ (v w : CommandWord) (d e : DecodeError) (s : State), decode v = .error d → decode w = .error e →
    execWord v s = execWord w s) ∧
  (∀ (w : CommandWord) (e : DecodeError) (s : State), decode w = .error e →
    execWord w s = .next { s with ill := true } ∧ faultCause { s with ill := true } = 1) ∧
  (∀ s : State, faultCause s = 0 ↔ s.ill = false)

/-- Words written out from 30_encoding.md R50 to R55 and 95_test_vectors.md V-80 to V-88. -/
def Obligations.SampleWordsDecode : Prop :=
  decode 0x0000000#27 = .ok .nop ∧ decode 0x1000484#27 = .ok (.encsym 0x484#12) ∧
  decode 0x1000FFF#27 = .ok (.encsym 0xFFF#12) ∧ decode 0x22BC43C#27 = .ok (.decsym 0x2BC43C#24) ∧
  decode 0x2FFFFFF#27 = .ok (.decsym 0xFFFFFF#24) ∧ decode 0x3000048#27 = .ok (.encb 0x48#8) ∧
  decode 0x4000000#27 = .ok .encend ∧ decode 0x5000058#27 = .ok (.decb 0x58#8) ∧
  decode 0x6000000#27 = .ok .decend ∧ decode 0x7000000#27 = .error .reservedOp ∧
  decode 0x0000001#27 = .error .reservedOperandBits ∧ decode 0x1001000#27 = .error .reservedOperandBits ∧
  decode 0x3000100#27 = .error .reservedOperandBits ∧ decode 0x4000001#27 = .error .reservedOperandBits ∧
  decode 0x5800000#27 = .error .reservedOperandBits ∧ decode 0x6800000#27 = .error .reservedOperandBits

/-- R59: the assembler reads back what the printer writes, and never emits an illegal word except for
`.word`. How a line is cut into tokens is the model's choice (log 18). -/
def Obligations.AssemblerEmitsTheWordOfTheCommand : Prop :=
  (∀ i : Instr, assembleLine (renderInstr i) = some [encode i]) ∧
  (∀ (line : List Char) (ws : List CommandWord), assembleLine line = some ws →
    (∃ rest, tokens [] false line = some (.word ".word".toList :: rest)) ∨
    ∀ w ∈ ws, wellFormedWord w = true)

/-! ## The step -/

/-- 30_encoding.md section 1, 20_memory.md sections 1 and 5: when the word the host presents decodes to an
instruction, the step is the instruction's meaning, on the state whose command stream has moved past the
word. -/
def Obligations.StepRunsTheDecodedCommand : Prop :=
  ∀ (s : State) (w : CommandWord) (rest : List HostEvent) (i : Instr),
    s.input = .command w :: rest → decode w = .ok i → step s = exec i { s with input := rest }

/-- The model's choice (log 2): a step with nothing presented changes nothing. -/
def Obligations.StepWithNothingPresentedIsIdle : Prop :=
  ∀ s : State, s.input = [] → step s = .next s

/-- R163: an illegal word sets `ILL` and nothing else; no command clears `ILL`; and later commands compute
what they would have computed without it. -/
def Obligations.IllegalCommandSetsOnlyIll : Prop :=
  (∀ (s : State) (w : CommandWord) (rest : List HostEvent) (e : DecodeError),
    s.input = .command w :: rest → decode w = .error e →
    step s = .next { s with input := rest, ill := true }) ∧
  (∀ (i : Instr) (s t : State), exec i s = .next t → t.ill = s.ill) ∧
  (∀ (i : Instr) (s t : State) (b : Bool), exec i s = .next t →
    exec i { s with ill := b } = .next { t with ill := b })

/-- R180, R181: the reset event, alone or with a command, zeroes the ten registers, executes no command, and
keeps the bytes already emitted; and only a reset clears `ILL`. -/
def Obligations.ResetEventZeroesTheRegisters : Prop :=
  (∀ (s : State) (e : HostEvent) (rest : List HostEvent), s.input = e :: rest →
    (e = .reset ∨ ∃ w, e = .resetAndCommand w) →
    step s = .next { eAcc := 0#8, eCnt := 0#4, eLen := 0#32, dGrp := 0#16, dGn := 0#2, dAcc := 0#4,
                     dAn := 0#3, dErr := 0#32, res := 0#32, ill := false,
                     encOut := s.encOut, decOut := s.decOut, input := rest }) ∧
  (∀ s t : State, s.ill = true → step s = .next t → t.ill = false →
    ∃ e rest, s.input = e :: rest ∧ (e = .reset ∨ ∃ w, e = .resetAndCommand w))

/-- R24, and that the state after reset meets the invariant of R23. That both streams start empty is the
reading of 95_test_vectors.md part 3 (log 3), that nothing is presented yet the model's choice (log 1). -/
def Obligations.ResetStateMeetsTheInvariant : Prop :=
  State.reset.eAcc = 0#8 ∧ State.reset.eCnt = 0#4 ∧ State.reset.eLen = 0#32 ∧
  State.reset.dGrp = 0#16 ∧ State.reset.dGn = 0#2 ∧ State.reset.dAcc = 0#4 ∧ State.reset.dAn = 0#3 ∧
  State.reset.dErr = 0#32 ∧ State.reset.res = 0#32 ∧ State.reset.ill = false ∧
  status State.reset = 0x00#8 ∧ State.reset.Inv

/-- R23: the state after reset meets the eight clauses and every step keeps them; and `E_LEN` stays a
multiple of 3 while it does not wrap. -/
def Obligations.StepKeepsTheStateInvariant : Prop :=
  (State.reset.Inv ∧ State.reset.eLen.toNat % 3 = 0) ∧
  (∀ s t : State, s.Inv → step s = .next t → t.Inv) ∧
  (∀ s t : State, s.eLen.toNat % 3 = 0 → s.eLen.toNat + 3 < 2 ^ 32 → step s = .next t →
    t.eLen.toNat % 3 = 0)

/-- 20_memory.md section 5, 60_exceptions.md section 1: a state that meets the invariant of R23 always has
a next state, whatever is presented and whatever has been emitted. -/
def Obligations.EveryStepFromTheInvariantHasASuccessor : Prop :=
  ∀ s : State, s.Inv → ∃ t, step s = .next t

/-- 10_state.md section 6 (its Model note): a command has no next state exactly where its pseudocode has no
case: ENCB and ENCEND when `E_CNT` is not 0, 4 or 8, DECB when `D_GN` is 3, and the third DECB of a group
when `D_AN` is not 0 or 4. That the refusal is per command and exactly there, so that NOP and DECEND run
with `E_CNT = 5`, is the model's DEDUCED choice (log 6): 93_implementation_defined.md says to restrict the
step to well-formed states. -/
def Obligations.CommandsStopExactlyOutsideTheirPhases : Prop :=
  (∀ (i : Instr) (s : State), (∀ t, exec i s ≠ .next t) ↔
    ((onEncodePath i = true ∧ s.eCnt ≠ 0#4 ∧ s.eCnt ≠ 4#4 ∧ s.eCnt ≠ 8#4) ∨
     (∃ b, i = .decb b ∧ (s.dGn = 3#2 ∨ (s.dGn = 2#2 ∧ s.dAn ≠ 0#3 ∧ s.dAn ≠ 4#3)))))

/-- 10_state.md section 4: every bit of `STATUS`. -/
def Obligations.StatusShowsIllAndTheBusyPaths : Prop :=
  ∀ s : State,
    (status s).getLsbD 0 = s.ill ∧
    ((status s).getLsbD 1 = true ↔ s.eCnt ≠ 0#4) ∧
    ((status s).getLsbD 2 = true ↔ (s.dGn ≠ 0#2 ∨ s.dAn ≠ 0#3)) ∧
    (status s).extractLsb' 3 5 = 0#5

/-! ## The commands, one by one -/

/-- R123: NOP changes nothing; a nonzero operand is illegal. -/
def Obligations.NopChangesNothing : Prop :=
  decode 0x0000000#27 = .ok .nop ∧
  (∀ s : State, exec .nop s = .next s) ∧
  (∀ (operand : BitVec 24) (s : State), operand ≠ 0#24 →
    execWord (0#3 ++ operand) s = .next { s with ill := true })

/-- R104: ENCSYM writes the zero-extended codeword to `RES` and nothing else; an operand of more than 12 bits
is illegal and leaves `RES`. -/
def Obligations.EncsymWritesTheCodeword : Prop :=
  (∀ (x : Symbol) (s : State), exec (.encsym x) s = .next { s with res := (enc24 x).setWidth 32 }) ∧
  (∀ (operand : BitVec 24) (s : State), operand.extractLsb' 12 12 = 0#12 →
    execWord (1#3 ++ operand) s = exec (.encsym (operand.extractLsb' 0 12)) s) ∧
  (∀ (operand : BitVec 24) (s : State), operand.extractLsb' 12 12 ≠ 0#12 →
    execWord (1#3 ++ operand) s = .next { s with ill := true }) ∧
  (enc24 0x000#12).setWidth 32 = 0#32 ∧ (enc24 0xFFF#12).setWidth 32 = 0x00FFFFFF#32 ∧
  (enc24 0x484#12).setWidth 32 = 0x00484195#32

/-- 30_encoding.md section 4 with 41_golay_transform.md sections 1 and 2: after ENCSYM the top byte of `RES`
is 0, bits 23:12 are the symbol, and bit `j` below them is the parity of the symbol under the column mask
`M[j]`; everything else is as before. -/
def Obligations.EncsymResultByColumnMasks : Prop :=
  ∀ (x : Symbol) (s : State), ∃ r : BitVec 32,
    exec (.encsym x) s = .next { s with res := r } ∧
    r.extractLsb' 24 8 = 0#8 ∧ r.extractLsb' 12 12 = x ∧
    ∀ (j : Nat) (m : Symbol), columnMasks[j]? = some m →
      (r.getLsbD j = true ↔ popcount (x &&& m) % 2 = 1)

/-- R105: DECSYM writes `zext_32(k[1:0] ++ s)` to `RES` and nothing else, and every operand is legal; a word
whose syndrome is that of no pattern of weight at most 3 counts 3. -/
def Obligations.DecsymWritesCountAndSymbol : Prop :=
  (∀ (c : Codeword) (s : State), exec (.decsym c) s =
    .next { s with res := (BitVec.ofNat 2 (dec24 c).2 ++ (dec24 c).1).setWidth 32 }) ∧
  (∀ (c : Codeword) (s : State), execWord (2#3 ++ c) s = exec (.decsym c) s) ∧
  (∀ c : Codeword, (∃ e : Codeword, popcount e ≤ 3 ∧ syn e = syn c) ∨ (dec24 c).2 = 3) ∧
  dec24 0x000000#24 = (0x000#12, 0) ∧ dec24 0xFFFFFF#24 = (0xFFF#12, 0) ∧
  syn 0x2BC43C#24 = 0xAE3#12 ∧ synRom 0xAE3#12 = 0x800000#24 ∧
  (∀ s : State, exec (.decsym 0x2BC43C#24) s = .next { s with res := 0x00001ABC#32 })

/-- 30_encoding.md section 4: the fields of `RES` after DECSYM give back exactly what `dec24` answers: no
count is cut off by its two bits. -/
def Obligations.DecsymResultFieldsLoseNothing : Prop :=
  ∀ (c : Codeword) (s : State), ∃ r : BitVec 32,
    exec (.decsym c) s = .next { s with res := r } ∧
    r.extractLsb' 0 12 = (dec24 c).1 ∧ (r.extractLsb' 12 2).toNat = (dec24 c).2 ∧
    r.extractLsb' 14 18 = 0#18

/-- R124: ENCB by the value of `E_CNT`: what it leaves in the four fields it writes, with everything else as
before; reserved operand bits are illegal and push no byte. -/
def Obligations.EncbFollowsThePhaseTable : Prop :=
  (∀ (b : Byte) (s : State), s.eCnt = 0#4 →
    exec (.encb b) s = .next { s with eAcc := b, eCnt := 8#4 }) ∧
  (∀ (b : Byte) (s : State), s.eCnt = 8#4 →
    let c := enc24 (s.eAcc ++ b.extractLsb' 4 4)
    exec (.encb b) s = .next { s with
      eAcc := 0#4 ++ b.extractLsb' 0 4, eCnt := 4#4, eLen := s.eLen + 3#32,
      encOut := s.encOut ++ [c.extractLsb' 16 8, c.extractLsb' 8 8, c.extractLsb' 0 8] }) ∧
  (∀ (b : Byte) (s : State), s.eCnt = 4#4 →
    let c := enc24 (s.eAcc.extractLsb' 0 4 ++ b)
    exec (.encb b) s = .next { s with
      eAcc := 0#8, eCnt := 0#4, eLen := s.eLen + 3#32,
      encOut := s.encOut ++ [c.extractLsb' 16 8, c.extractLsb' 8 8, c.extractLsb' 0 8] }) ∧
  (∀ (operand : BitVec 24) (s : State), operand.extractLsb' 8 16 = 0#16 →
    execWord (3#3 ++ operand) s = exec (.encb (operand.extractLsb' 0 8)) s) ∧
  (∀ (operand : BitVec 24) (s : State), operand.extractLsb' 8 16 ≠ 0#16 →
    execWord (3#3 ++ operand) s = .next { s with ill := true })

/-- R125: ENCEND flushes the zero-padded last symbol, reports the length in `RES` and clears the encode path,
with everything else as before; a nonzero operand is illegal and ends nothing. With nothing pending the
invariant of R23 says that `E_ACC` is already 0. -/
def Obligations.EncendFlushesAndReportsTheLength : Prop :=
  (∀ s : State, s.EncodeInv → s.eCnt = 0#4 →
    exec .encend s = .next { s with eAcc := 0#8, eCnt := 0#4, eLen := 0#32, res := s.eLen.setWidth 32 }) ∧
  (∀ s : State, s.eCnt = 8#4 →
    let c := enc24 (s.eAcc ++ 0x0#4)
    exec .encend s = .next { s with
      eAcc := 0#8, eCnt := 0#4, eLen := 0#32, res := (s.eLen + 3#32).setWidth 32,
      encOut := s.encOut ++ [c.extractLsb' 16 8, c.extractLsb' 8 8, c.extractLsb' 0 8] }) ∧
  (∀ s : State, s.eCnt = 4#4 →
    let c := enc24 (s.eAcc.extractLsb' 0 4 ++ 0x00#8)
    exec .encend s = .next { s with
      eAcc := 0#8, eCnt := 0#4, eLen := 0#32, res := (s.eLen + 3#32).setWidth 32,
      encOut := s.encOut ++ [c.extractLsb' 16 8, c.extractLsb' 8 8, c.extractLsb' 0 8] }) ∧
  decode 0x4000000#27 = .ok .encend ∧
  (∀ (operand : BitVec 24) (s : State), operand ≠ 0#24 →
    execWord (4#3 ++ operand) s = .next { s with ill := true })

/-- R126: DECB by the value of `D_GN`, and for the third byte of a group by `D_AN`: what it leaves in the
fields it writes, with everything else as before; reserved operand bits are illegal and push no byte. -/
def Obligations.DecbFollowsThePhaseTable : Prop :=
  (∀ (b : Byte) (s : State), s.dGn = 0#2 →
    exec (.decb b) s = .next { s with dGrp := b ++ 0x00#8, dGn := 1#2 }) ∧
  (∀ (b : Byte) (s : State), s.dGn = 1#2 →
    exec (.decb b) s = .next { s with dGrp := s.dGrp.extractLsb' 8 8 ++ b, dGn := 2#2 }) ∧
  (∀ (b : Byte) (s : State), s.dGn = 2#2 → s.dAn = 0#3 →
    let r := dec24 (s.dGrp ++ b)
    exec (.decb b) s = .next { s with
      dGrp := 0#16, dGn := 0#2, dErr := s.dErr + BitVec.ofNat 32 r.2,
      dAcc := r.1.extractLsb' 0 4, dAn := 4#3, decOut := s.decOut ++ [r.1.extractLsb' 4 8] }) ∧
  (∀ (b : Byte) (s : State), s.dGn = 2#2 → s.dAn = 4#3 →
    let r := dec24 (s.dGrp ++ b)
    exec (.decb b) s = .next { s with
      dGrp := 0#16, dGn := 0#2, dErr := s.dErr + BitVec.ofNat 32 r.2,
      dAcc := 0#4, dAn := 0#3,
      decOut := s.decOut ++ [s.dAcc ++ r.1.extractLsb' 8 4, r.1.extractLsb' 0 8] }) ∧
  (∀ (operand : BitVec 24) (s : State), operand.extractLsb' 8 16 = 0#16 →
    execWord (5#3 ++ operand) s = exec (.decb (operand.extractLsb' 0 8)) s) ∧
  (∀ (operand : BitVec 24) (s : State), operand.extractLsb' 8 16 ≠ 0#16 →
    execWord (5#3 ++ operand) s = .next { s with ill := true })

/-- R127: DECEND reports the count in `RES` and clears the five decode-path registers whatever they hold,
emits nothing, and leaves everything else; a nonzero operand is illegal and ends nothing. -/
def Obligations.DecendReportsTheCountAndDropsTheRest : Prop :=
  (∀ s : State, exec .decend s = .next { s with
    res := s.dErr.setWidth 32, dGrp := 0#16, dGn := 0#2, dAcc := 0#4, dAn := 0#3, dErr := 0#32 }) ∧
  decode 0x6000000#27 = .ok .decend ∧
  (∀ (operand : BitVec 24) (s : State), operand ≠ 0#24 →
    execWord (6#3 ++ operand) s = .next { s with ill := true })

/-! ## What commands leave alone -/

/-- R46, what each kind of command writes: the frame of all seven commands. Encode-path commands leave the
decode path's registers and stream, decode-path commands the encode path's, the others everything but
`RES`; none touches `ILL` or the command stream. -/
def Obligations.CommandsWriteOnlyTheirOwnPath : Prop :=
  (∀ (i : Instr) (s t : State), onEncodePath i = true → exec i s = .next t →
    t = { s with eAcc := t.eAcc, eCnt := t.eCnt, eLen := t.eLen, res := t.res, encOut := t.encOut }) ∧
  (∀ (i : Instr) (s t : State), onDecodePath i = true → exec i s = .next t →
    t = { s with dGrp := t.dGrp, dGn := t.dGn, dAcc := t.dAcc, dAn := t.dAn, dErr := t.dErr,
                 res := t.res, decOut := t.decOut }) ∧
  (∀ (i : Instr) (s t : State), onEncodePath i = false → onDecodePath i = false → exec i s = .next t →
    t = { s with res := t.res })

/-- R46: the two paths are independent. What a path's command does to its own path is decided by that path
alone; a command of the other path, or of neither, leaves the path as it was, so its stream is the same as
if the other commands were absent. -/
def Obligations.PathsAreIndependent : Prop :=
  (∀ (i : Instr) (s s' t : State), onEncodePath i = true → s.SameEncodePath s' → exec i s = .next t →
    ∃ t', exec i s' = .next t' ∧ t.SameEncodePath t' ∧ (s.res = s'.res → t.res = t'.res)) ∧
  (∀ (i : Instr) (s s' t : State), onDecodePath i = true → s.SameDecodePath s' → exec i s = .next t →
    ∃ t', exec i s' = .next t' ∧ t.SameDecodePath t' ∧ (s.res = s'.res → t.res = t'.res)) ∧
  (∀ (i : Instr) (s s' t : State), onEncodePath i = false → onDecodePath i = false → exec i s = .next t →
    ∃ t', exec i s' = .next t' ∧ (s.res = s'.res → t.res = t'.res)) ∧
  (∀ (i : Instr) (s t : State), onEncodePath i = false → exec i s = .next t → s.SameEncodePath t) ∧
  (∀ (i : Instr) (s t : State), onDecodePath i = false → exec i s = .next t → s.SameDecodePath t) ∧
  (∀ (i : Instr) (s t : State), onEncodePath i = false → onDecodePath i = false → exec i s = .next t →
    t = { s with res := t.res })

/-- R19: only ENCSYM, DECSYM, ENCEND and DECEND write `RES`, with the values the rule names; NOP, ENCB, DECB
and every illegal word leave it; and no command's result depends on it. -/
def Obligations.ResIsWrittenByFourCommandsAndReadByNone : Prop :=
  (∀ s t : State, exec .nop s = .next t → t.res = s.res) ∧
  (∀ (b : Byte) (s t : State), exec (.encb b) s = .next t → t.res = s.res) ∧
  (∀ (b : Byte) (s t : State), exec (.decb b) s = .next t → t.res = s.res) ∧
  (∀ (w : CommandWord) (e : DecodeError) (s t : State), decode w = .error e → execWord w s = .next t →
    t.res = s.res) ∧
  (∀ (x : Symbol) (s t : State), exec (.encsym x) s = .next t → t.res = (enc24 x).setWidth 32) ∧
  (∀ (c : Codeword) (s t : State), exec (.decsym c) s = .next t →
    t.res = (BitVec.ofNat 2 (dec24 c).2 ++ (dec24 c).1).setWidth 32) ∧
  (∀ s t : State, exec .encend s = .next t →
    t.res = (if s.eCnt = 0#4 then s.eLen else s.eLen + 3#32).setWidth 32) ∧
  (∀ s t : State, exec .decend s = .next t → t.res = s.dErr.setWidth 32) ∧
  (∀ (i : Instr) (s t : State) (v : BitVec 32), exec i s = .next t →
    ∃ t', exec i { s with res := v } = .next t' ∧ { t' with res := 0#32 } = { t with res := 0#32 } ∧
      (t'.res = t.res ∨ (t'.res = v ∧ t.res = s.res)))

/-- R26: the streams only grow, at every step, a reset included; and what a command appends does not depend
on what was emitted before, which it keeps. -/
def Obligations.StreamsAreAppendOnly : Prop :=
  (∀ s t : State, step s = .next t → s.encOut <+: t.encOut ∧ s.decOut <+: t.decOut) ∧
  (∀ (i : Instr) (s t : State) (e d : List Byte), exec i s = .next t →
    ∃ a b, t.encOut = s.encOut ++ a ∧ t.decOut = s.decOut ++ b ∧
      exec i { s with encOut := e, decOut := d } = .next { t with encOut := e ++ a, decOut := d ++ b })

/-- R41: how many bytes each command appends, by command and phase. -/
def Obligations.CommandsAppendTheseManyBytes : Prop :=
  ∀ (i : Instr) (s t : State), exec i s = .next t → ∃ a b : List Byte,
    t.encOut = s.encOut ++ a ∧ t.decOut = s.decOut ++ b ∧
    match i with
    | .encb _ | .encend => (a.length = 0 ∨ a.length = 3) ∧ b = []
    | .decb _ => a = [] ∧ (b.length = 0 ∨ b.length = 1 ∨ b.length = 2)
    | .nop | .encsym _ | .decsym _ | .decend => a = [] ∧ b = []

/-- R28: after ENCEND the encode path, after DECEND the decode path, holds its reset values, whatever was
pushed before, so two runs that differ only before the end marker agree from there on; `ILL` and the bytes
already emitted survive. -/
def Obligations.EndMarkersReturnThePathToReset : Prop :=
  (∀ s t : State, s.EncodeInv → exec .encend s = .next t →
    t.eAcc = State.reset.eAcc ∧ t.eCnt = State.reset.eCnt ∧ t.eLen = State.reset.eLen ∧
    t.ill = s.ill ∧ s.encOut <+: t.encOut ∧ t.decOut = s.decOut) ∧
  (∀ s t : State, exec .decend s = .next t →
    t.dGrp = State.reset.dGrp ∧ t.dGn = State.reset.dGn ∧ t.dAcc = State.reset.dAcc ∧
    t.dAn = State.reset.dAn ∧ t.dErr = State.reset.dErr ∧
    t.ill = s.ill ∧ t.encOut = s.encOut ∧ t.decOut = s.decOut)

/-- R12, R15, R17: what the phase counters hold after any commands among which `n` bytes were pushed on the
path and none ended it, from a path at its start: `8n mod 12`; `n mod 3`; and `12 (n div 3) mod 8`. -/
def Obligations.PhaseCountersCountThePushedBytes : Prop :=
  (∀ (p : List Byte) (ws : List CommandWord) (rest : List HostEvent) (s t : State),
    s.eCnt = 0#4 → s.input = ws.map .command ++ rest → pathCommands onEncodePath ws = p.map .encb →
    stepN ws.length s = .next t →
    t.eCnt.toNat = 8 * p.length % 12 ∧ (t.eCnt = 0#4 ∨ t.eCnt = 8#4 ∨ t.eCnt = 4#4)) ∧
  (∀ (e : List Byte) (ws : List CommandWord) (rest : List HostEvent) (s t : State),
    s.dGn = 0#2 → s.dAn = 0#3 → s.input = ws.map .command ++ rest →
    pathCommands onDecodePath ws = e.map .decb → stepN ws.length s = .next t →
    t.dGn.toNat = e.length % 3 ∧ t.dAn.toNat = 12 * (e.length / 3) % 8)

/-! ## The code -/

/-- R91: the parity bits by rows and by column masks, and linearity. -/
def Obligations.ParityIsLinearAndFollowsTheColumnMasks : Prop :=
  par12 0#12 = 0#12 ∧
  (∀ (i : Nat) (row : Symbol), parityRows[i]? = some row → par12 (1#12 <<< i) = row) ∧
  (∀ a b : Symbol, par12 (a ^^^ b) = par12 a ^^^ par12 b) ∧
  (∀ (s : Symbol) (j : Nat) (m : Symbol), columnMasks[j]? = some m →
    ((par12 s).getLsbD j = true ↔ popcount (s &&& m) % 2 = 1)) ∧
  (∀ (i j : Nat) (row m : Symbol), parityRows[i]? = some row → columnMasks[j]? = some m →
    m.getLsbD i = row.getLsbD j)

/-- R94: linearity; the weight distribution; distance at least 8; even weights; the matrix is its own inverse
transpose; `enc24` is injective and the valid words are those with syndrome 0. -/
def Obligations.CodeHasDistanceEight : Prop :=
  (∀ a b : Symbol, enc24 (a ^^^ b) = enc24 a ^^^ enc24 b) ∧
  (allSymbols.countP (fun s => popcount (enc24 s) == 0) = 1 ∧
   allSymbols.countP (fun s => popcount (enc24 s) == 8) = 759 ∧
   allSymbols.countP (fun s => popcount (enc24 s) == 12) = 2576 ∧
   allSymbols.countP (fun s => popcount (enc24 s) == 16) = 759 ∧
   allSymbols.countP (fun s => popcount (enc24 s) == 24) = 1 ∧
   ∀ s : Symbol, popcount (enc24 s) ∈ [0, 8, 12, 16, 24]) ∧
  (∀ a b : Symbol, a ≠ b → 8 ≤ dist (enc24 a) (enc24 b)) ∧
  (∀ s : Symbol, popcount (enc24 s) % 2 = 0) ∧
  (∀ (i j : Nat) (r q : Symbol), parityRows[i]? = some r → parityRows[j]? = some q →
    popcount (r &&& q) % 2 = if i = j then 1 else 0) ∧
  (∀ a b : Symbol, enc24 a = enc24 b → a = b) ∧
  (∀ c : Codeword, (∃ s, c = enc24 s) ↔ syn c = 0#12)

/-- R95: the syndrome is linear, depends on the error alone, and of a single bit is that bit or its row. -/
def Obligations.SyndromeDependsOnTheErrorAlone : Prop :=
  (∀ c : Codeword, syn c = par12 (c.extractLsb' 12 12) ^^^ c.extractLsb' 0 12) ∧
  (∀ a b : Codeword, syn (a ^^^ b) = syn a ^^^ syn b) ∧
  (∀ v e : Codeword, syn v = 0#12 → syn (v ^^^ e) = syn e) ∧
  (∀ p : Nat, p ≤ 11 → syn (1#24 <<< p) = 1#12 <<< p) ∧
  (∀ (i : Nat) (row : Symbol), parityRows[i]? = some row → syn (1#24 <<< (12 + i)) = row)

/-- R96: the covered entries: the table maps the syndrome of every pattern of weight at most 3 to that
pattern; those syndromes are pairwise distinct, and there are 2325 of them. -/
def Obligations.TableCoversEveryPatternOfWeightThree : Prop :=
  (∀ e : Codeword, popcount e ≤ 3 → synRom (syn e) = e) ∧
  (∀ e e' : Codeword, popcount e ≤ 3 → popcount e' ≤ 3 → syn e = syn e' → e = e') ∧
  {e : Codeword | popcount e ≤ 3}.ncard = 2325 ∧
  synRom 0x000#12 = 0x000000#24

/-- 41_golay_transform.md section 4 (decision D8 of the spec): a syndrome is that of a pattern of weight at
most 3, or the table holds the one pattern of weight 3, bit 0 clear, that with bit 0 added has the syndrome;
1771 syndromes are of the second kind; every word has weight at most 3. -/
def Obligations.TableFillsTheUncoveredSyndromes : Prop :=
  (∀ z : BitVec 12, (∃ e : Codeword, popcount e ≤ 3 ∧ syn e = z) ∨
    (popcount (synRom z) = 3 ∧ (synRom z).getLsbD 0 = false ∧ syn (synRom z ^^^ 0x000001#24) = z ∧
     ∀ e : Codeword, popcount e = 3 → e.getLsbD 0 = false → syn (e ^^^ 0x000001#24) = z → e = synRom z)) ∧
  {z : BitVec 12 | ∀ e : Codeword, popcount e ≤ 3 → syn e ≠ z}.ncard = 1771 ∧
  (∀ z : BitVec 12, popcount (synRom z) ≤ 3) ∧
  synRom 0x00F#12 = 0x00000E#24

/-- R151: the checks on the listing. A starred address is one whose word has another syndrome. -/
def Obligations.TableMeetsTheListingChecks : Prop :=
  (allSymbols.countP (fun z => popcount (synRom z) == 0) = 1 ∧
   allSymbols.countP (fun z => popcount (synRom z) == 1) = 24 ∧
   allSymbols.countP (fun z => popcount (synRom z) == 2) = 276 ∧
   allSymbols.countP (fun z => popcount (synRom z) == 3) = 3795) ∧
  allSymbols.countP (fun z => syn (synRom z) != z) = 1771 ∧
  (∀ z : BitVec 12, syn (synRom z) ≠ z →
    popcount (synRom z) = 3 ∧ (synRom z).getLsbD 0 = false ∧ syn (synRom z) = z ^^^ 0x001#12) ∧
  allSymbols.foldl (fun x z => x ^^^ synRom z) 0#24 = 0x000001#24 ∧
  (allSymbols.map fun z => (synRom z).toNat).sum = 8522824989 ∧
  synRom 0x000#12 = 0x000000#24 ∧
  (∀ p : Nat, p ≤ 11 → synRom (1#12 <<< p) = 1#24 <<< p) ∧
  (∀ (i : Nat) (row : Symbol), parityRows[i]? = some row → synRom row = 1#24 <<< (12 + i)) ∧
  synRom 0xAE3#12 = 0x800000#24 ∧ synRom 0x5C7#12 = 0x001000#24 ∧
  (allSymbols.take 0x02E).filter (fun z => syn (synRom z) != z) =
    [0x00F#12, 0x017#12, 0x01B#12, 0x01D#12, 0x01E#12, 0x027#12, 0x02B#12, 0x02D#12]

/-- R99: a zero syndrome means no correction and a count of 0, and happens exactly for valid codewords. -/
def Obligations.ZeroSyndromeReadsTheDataBits : Prop :=
  (∀ c : Codeword, syn c = 0#12 → synRom (syn c) = 0#24 ∧ dec24 c = (c.extractLsb' 12 12, 0)) ∧
  (∀ c : Codeword, syn c = 0#12 ↔ ∃ s, c = enc24 s) ∧
  dec24 0xABC43C#24 = (0xABC#12, 0) ∧ 0xABC43C#24 ^^^ 0x0015C7#24 = 0xABD1FB#24 ∧
  dec24 0xABD1FB#24 = (0xABD#12, 0)

/-- R100: up to 3 errors, anywhere in the 24 bits, are corrected and counted exactly. The guarantee reads no
entry but the covered one of the pattern itself, so it holds with every table that has that entry. -/
def Obligations.UpToThreeErrorsAreCorrected : Prop :=
  (∀ (x : Symbol) (e : Codeword), popcount e ≤ 3 → dec24 (enc24 x ^^^ e) = (x, popcount e)) ∧
  (∀ (table : BitVec 12 → Codeword) (x : Symbol) (e : Codeword), popcount e ≤ 3 → table (syn e) = e →
    dec24With table (enc24 x ^^^ e) = (x, popcount e)) ∧
  dec24 0xBBC53D#24 = (0xABC#12, 3)

/-- 41_golay_transform.md section 5: whatever the word, the count is at most 3 and the answer is the nearest
codeword but for bit 0; exactly 4 errors always count 3. -/
def Obligations.HeavierErrorsStillGiveACountOfAtMostThree : Prop :=
  (∀ c : Codeword, (dec24 c).2 ≤ 3) ∧
  (∀ (x : Symbol) (e : Codeword), popcount e = 4 → (dec24 (enc24 x ^^^ e)).2 = 3) ∧
  (∀ c : Codeword, dist c (enc24 (dec24 c).1) = (dec24 c).2 ∨ dist c (enc24 (dec24 c).1) = 4)

/-- R102: the form of the decoder without the 4096-entry table. Each 11-bit syndrome has exactly one pattern
of weight at most 3 over bits 23:1, and the table's word is that pattern, with bit 0 added when the parity of
the word asks for it and the weight allows it. -/
def Obligations.TableAgreesWithThePerfectCodeDecoder : Prop :=
  (∀ z11 : BitVec 11, ∃ e : Codeword, (popcount e ≤ 3 ∧ e.getLsbD 0 = false ∧ (syn e).extractLsb' 1 11 = z11) ∧
    ∀ e' : Codeword, popcount e' ≤ 3 → e'.getLsbD 0 = false → (syn e').extractLsb' 1 11 = z11 → e' = e) ∧
  (∀ c e23 : Codeword, popcount e23 ≤ 3 → e23.getLsbD 0 = false →
    (syn e23).extractLsb' 1 11 = (syn c).extractLsb' 1 11 →
    synRom (syn c) =
      if popcount (c ^^^ e23) % 2 = 1 ∧ popcount e23 ≤ 2 then e23 ||| 0x000001#24 else e23)

/-! ## The framer and the entry points -/

/-- R71: `split` in closed form, three bytes to two symbols, and the three tails with their padding. -/
def Obligations.SplitInClosedForm : Prop :=
  (∀ (p : List Byte) (q : Nat) (a b c : Byte),
    p[3 * q]? = some a → p[3 * q + 1]? = some b → p[3 * q + 2]? = some c →
    (split p)[2 * q]? = some (a ++ b.extractLsb' 4 4) ∧
    (split p)[2 * q + 1]? = some (b.extractLsb' 0 4 ++ c)) ∧
  (∀ (p : List Byte) (q : Nat), p.length = 3 * q → (split p).length = 2 * q) ∧
  (∀ (p : List Byte) (q : Nat) (a : Byte), p.length = 3 * q + 1 → p[3 * q]? = some a →
    (split p).length = 2 * q + 1 ∧ (split p)[2 * q]? = some (a ++ 0x0#4)) ∧
  (∀ (p : List Byte) (q : Nat) (a b : Byte), p.length = 3 * q + 2 →
    p[3 * q]? = some a → p[3 * q + 1]? = some b →
    (split p).length = 2 * q + 2 ∧ (split p)[2 * q]? = some (a ++ b.extractLsb' 4 4) ∧
    (split p)[2 * q + 1]? = some (b.extractLsb' 0 4 ++ 0x00#8)) ∧
  (∀ p : List Byte, 12 * (split p).length = 8 * p.length ∨
    12 * (split p).length = 8 * p.length + 4 ∨ 12 * (split p).length = 8 * p.length + 8)

/-- R74: `join` in closed form, two symbols to three bytes, and the odd last symbol, whose low 4 bits are
dropped. -/
def Obligations.JoinInClosedForm : Prop :=
  (∀ (syms : List Symbol) (q : Nat) (x y : Symbol),
    syms[2 * q]? = some x → syms[2 * q + 1]? = some y →
    (join syms)[3 * q]? = some (x.extractLsb' 4 8) ∧
    (join syms)[3 * q + 1]? = some (x.extractLsb' 0 4 ++ y.extractLsb' 8 4) ∧
    (join syms)[3 * q + 2]? = some (y.extractLsb' 0 8)) ∧
  (∀ (syms : List Symbol) (q : Nat), syms.length = 2 * q → (join syms).length = 3 * q) ∧
  (∀ (syms : List Symbol) (q : Nat) (x : Symbol), syms.length = 2 * q + 1 → syms[2 * q]? = some x →
    (join syms).length = 3 * q + 1 ∧ (join syms)[3 * q]? = some (x.extractLsb' 4 8)) ∧
  (∀ syms : List Symbol, 12 * syms.length = 8 * (join syms).length ∨
    12 * syms.length = 8 * (join syms).length + 4)

/-- R77: `join` undoes `split` up to one zero byte. -/
def Obligations.JoinUndoesSplit : Prop :=
  ∀ p : List Byte, join (split p) = if p.length % 3 = 2 then p ++ [0x00#8] else p

/-- R80: from an idle split unit, pushing a payload and flushing gives exactly `split` of it and leaves the
unit idle. -/
def Obligations.SplitUnitComputesSplit : Prop :=
  ∀ (p : List Byte) (s : State), s.EncodeInv → s.eCnt = 0#4 →
    ∃ syms s1 last s2, splitPushAll p s = .ok (syms, s1) ∧ splitFlush s1 = .ok (last, s2) ∧
      syms ++ last.toList = split p ∧ s2.eCnt = 0#4 ∧ s2.eAcc = 0#8

/-- R83: from an idle join unit, pushing symbols and flushing gives exactly `join` of them and leaves the unit
idle. -/
def Obligations.JoinUnitComputesJoin : Prop :=
  ∀ (syms : List Symbol) (s : State), s.dAn = 0#3 →
    ∃ s1, joinPushAll syms s = .ok (join syms, s1) ∧
      (joinFlush s1).dAn = 0#3 ∧ (joinFlush s1).dAcc = 0#4

/-- R122: the length laws. -/
def Obligations.LengthLaws : Prop :=
  (∀ p : List Byte, (encodePayload p).2 = (encodePayload p).1.length ∧
    (encodePayload p).2 = 3 * ((8 * p.length + 11) / 12) ∧
    (p.length % 3 = 0 → (encodePayload p).2 = 6 * (p.length / 3)) ∧
    (p.length % 3 = 1 → (encodePayload p).2 = 6 * (p.length / 3) + 3) ∧
    (p.length % 3 = 2 → (encodePayload p).2 = 6 * (p.length / 3) + 6)) ∧
  (∀ e : List Byte, (decodeStream e).1.length = e.length / 3 * 12 / 8 ∧
    (e.length / 3 % 2 = 0 → (decodeStream e).1.length = 3 * (e.length / 3) / 2) ∧
    (e.length / 3 % 2 = 1 → (decodeStream e).1.length = (3 * (e.length / 3) - 1) / 2))

/-- R129: the two levels agree on encoding. Whatever words of the other path, of neither path, or illegal,
are mixed in, the payload's commands append exactly the bytes of `encode`, ENCEND reports its length modulo
`2^LENW`, and the path ends idle. -/
def Obligations.EncodePathComputesEncode : Prop :=
  ∀ (p : List Byte) (ws : List CommandWord) (rest : List HostEvent) (s : State),
    s.Inv → s.eCnt = 0#4 → s.eLen = 0#32 →
    pathCommands onEncodePath ws = p.map .encb →
    s.input = ws.map .command ++ .command (encode .encend) :: rest →
    ∃ t, stepN (ws.length + 1) s = .next t ∧
      t.encOut = s.encOut ++ (encodePayload p).1 ∧ t.res = BitVec.ofNat 32 (encodePayload p).2 ∧
      t.eAcc = 0#8 ∧ t.eCnt = 0#4 ∧ t.eLen = 0#32 ∧ t.input = rest

/-- R130: the two levels agree on decoding. -/
def Obligations.DecodePathComputesDecode : Prop :=
  ∀ (e : List Byte) (ws : List CommandWord) (rest : List HostEvent) (s : State),
    s.Inv → s.dGn = 0#2 → s.dAn = 0#3 → s.dErr = 0#32 →
    pathCommands onDecodePath ws = e.map .decb →
    s.input = ws.map .command ++ .command (encode .decend) :: rest →
    ∃ t, stepN (ws.length + 1) s = .next t ∧
      t.decOut = s.decOut ++ (decodeStream e).1 ∧ t.res = BitVec.ofNat 32 (decodeStream e).2 ∧
      t.dGrp = 0#16 ∧ t.dGn = 0#2 ∧ t.dAcc = 0#4 ∧ t.dAn = 0#3 ∧ t.dErr = 0#32 ∧ t.input = rest

/-- R131: the round trip over a clean channel. -/
def Obligations.RoundTripIsTheIdentity : Prop :=
  ∀ p : List Byte, decodeStream (encodePayload p).1 =
    (if p.length % 3 = 2 then p ++ [0x00#8] else p, 0)

/-- R132: the round trip through a channel that flips at most 3 bits of every group: the same bytes, and
every flipped bit counted. A group with more counts at most 3. -/
def Obligations.RoundTripThroughANoisyChannel : Prop :=
  (∀ p damage : List Byte, damage.length = (encodePayload p).1.length →
    (∀ g ∈ groupWords damage, popcount g ≤ 3) →
    decodeStream (List.zipWith (· ^^^ ·) (encodePayload p).1 damage) =
      ((decodeStream (encodePayload p).1).1, (damage.map popcount).sum)) ∧
  (∀ c : Codeword, (dec24 c).2 ≤ 3)

/-- R133, its second sentence: where no counter wraps, `RES` is the integer of level F: a length below `2^32`, which every payload
of at most `2^31 - 2` bytes has; a count below `2^32`, which every stream of fewer than `2^32` bytes has. -/
def Obligations.ReportedCountsAreExactInRange : Prop :=
  (∀ p : List Byte, 3 * ((8 * p.length + 11) / 12) ≤ 2 * p.length + 2) ∧
  (∀ p : List Byte, p.length ≤ 2 ^ 31 - 2 → (encodePayload p).2 < 2 ^ 32) ∧
  (∀ e : List Byte, (decodeStream e).2 ≤ e.length) ∧
  (∀ (p : List Byte) (ws : List CommandWord) (rest : List HostEvent) (s t : State),
    s.Inv → s.eCnt = 0#4 → s.eLen = 0#32 → pathCommands onEncodePath ws = p.map .encb →
    s.input = ws.map .command ++ .command (encode .encend) :: rest →
    3 * ((8 * p.length + 11) / 12) < 2 ^ 32 → stepN (ws.length + 1) s = .next t →
    t.res.toNat = (encodePayload p).2) ∧
  (∀ (e : List Byte) (ws : List CommandWord) (rest : List HostEvent) (s t : State),
    s.Inv → s.dGn = 0#2 → s.dAn = 0#3 → s.dErr = 0#32 → pathCommands onDecodePath ws = e.map .decb →
    s.input = ws.map .command ++ .command (encode .decend) :: rest →
    (decodeStream e).2 < 2 ^ 32 → stepN (ws.length + 1) s = .next t →
    t.res.toNat = (decodeStream e).2)
end

