-- ==== Sys2Proof/Laws/Bits.lean ====
section
/-! SUPPORT. The small lemmas of `ofBits` and `popcount`. -/

namespace Sys2Proof.Machine

/-- Bit `i` of `ofBits f w` is `f i` below the width. -/
@[simp] theorem getLsbD_ofBits (f : Nat → Bool) (w i : Nat) :
    (ofBits f w).getLsbD i = (decide (i < w) && f i) := by
  induction w with
  | zero => simp [ofBits]
  | succ w ih =>
    simp only [ofBits, BitVec.getLsbD_cons, ih]
    rcases Nat.lt_trichotomy i w with h | h | h
    · simp [h, Nat.ne_of_lt h, Nat.lt_succ_of_lt h]
    · simp [h]
    · have h1 : ¬ i < w := by omega
      have h2 : ¬ i < w + 1 := by omega
      simp [h1, h2, Nat.ne_of_gt h]

/-- The bits below `n` decide the count below `n`. -/
theorem popcountBelow_congr {w w' : Nat} {v : BitVec w} {v' : BitVec w'} {n : Nat}
    (h : ∀ i, i < n → v.getLsbD i = v'.getLsbD i) : popcountBelow v n = popcountBelow v' n := by
  induction n with
  | zero => rfl
  | succ n ih =>
    simp only [popcountBelow, h n (Nat.lt_succ_self n)]
    rw [ih fun i hi => h i (Nat.lt_succ_of_lt hi)]

/-- A count of bits below `n` is at most `n`. -/
theorem popcountBelow_le {w : Nat} (v : BitVec w) (n : Nat) : popcountBelow v n ≤ n := by
  induction n with
  | zero => simp [popcountBelow]
  | succ n ih =>
    have := Bool.toNat_le (v.getLsbD n)
    simp only [popcountBelow]
    omega

/-- Counts of an exclusive-or: the bits that both values have are lost twice. -/
theorem popcountBelow_xor {w : Nat} (a b : BitVec w) (n : Nat) :
    popcountBelow (a ^^^ b) n + 2 * popcountBelow (a &&& b) n = popcountBelow a n + popcountBelow b n := by
  induction n with
  | zero => simp [popcountBelow]
  | succ n ih =>
    simp only [popcountBelow, BitVec.getLsbD_xor, BitVec.getLsbD_and]
    cases a.getLsbD n <;> cases b.getLsbD n <;> simp <;> omega

/-- `popcount(a ^ b) + 2 popcount(a & b) = popcount(a) + popcount(b)`. -/
theorem popcount_xor {w : Nat} (a b : BitVec w) :
    popcount (a ^^^ b) + 2 * popcount (a &&& b) = popcount a + popcount b := popcountBelow_xor a b w

/-- The triangle inequality of the Hamming weight. -/
theorem popcount_xor_le {w : Nat} (a b : BitVec w) : popcount (a ^^^ b) ≤ popcount a + popcount b := by
  have := popcount_xor a b
  omega

@[simp] theorem popcount_zero (w : Nat) : popcount (0#w) = 0 := by
  have h : ∀ n, popcountBelow (0#w) n = 0 := by
    intro n
    induction n with
    | zero => rfl
    | succ n ih => simp [popcountBelow, ih]
  exact h w

end Sys2Proof.Machine
end

