-- ==== Sys2Proof/Laws/State.lean ====
section
/-!
SUPPORT. The small lemmas of the state: what each field is after each named update, so that no proof
unfolds a record update.
-/

namespace Sys2Proof.Machine

variable (s : State)

@[simp] theorem State.setSplit_eAcc (acc : BitVec 8) (cnt : BitVec 4) : (s.setSplit acc cnt).eAcc = acc := rfl
@[simp] theorem State.setSplit_eCnt (acc : BitVec 8) (cnt : BitVec 4) : (s.setSplit acc cnt).eCnt = cnt := rfl
@[simp] theorem State.setSplit_eLen (acc : BitVec 8) (cnt : BitVec 4) : (s.setSplit acc cnt).eLen = s.eLen := rfl
@[simp] theorem State.setSplit_dGrp (acc : BitVec 8) (cnt : BitVec 4) : (s.setSplit acc cnt).dGrp = s.dGrp := rfl
@[simp] theorem State.setSplit_dGn (acc : BitVec 8) (cnt : BitVec 4) : (s.setSplit acc cnt).dGn = s.dGn := rfl
@[simp] theorem State.setSplit_dAcc (acc : BitVec 8) (cnt : BitVec 4) : (s.setSplit acc cnt).dAcc = s.dAcc := rfl
@[simp] theorem State.setSplit_dAn (acc : BitVec 8) (cnt : BitVec 4) : (s.setSplit acc cnt).dAn = s.dAn := rfl
@[simp] theorem State.setSplit_dErr (acc : BitVec 8) (cnt : BitVec 4) : (s.setSplit acc cnt).dErr = s.dErr := rfl
@[simp] theorem State.setSplit_res (acc : BitVec 8) (cnt : BitVec 4) : (s.setSplit acc cnt).res = s.res := rfl
@[simp] theorem State.setSplit_ill (acc : BitVec 8) (cnt : BitVec 4) : (s.setSplit acc cnt).ill = s.ill := rfl
@[simp] theorem State.setSplit_encOut (acc : BitVec 8) (cnt : BitVec 4) : (s.setSplit acc cnt).encOut = s.encOut := rfl
@[simp] theorem State.setSplit_decOut (acc : BitVec 8) (cnt : BitVec 4) : (s.setSplit acc cnt).decOut = s.decOut := rfl
@[simp] theorem State.setSplit_input (acc : BitVec 8) (cnt : BitVec 4) : (s.setSplit acc cnt).input = s.input := rfl

@[simp] theorem State.setELen_eAcc (n : BitVec Config.lenw) : (s.setELen n).eAcc = s.eAcc := rfl
@[simp] theorem State.setELen_eCnt (n : BitVec Config.lenw) : (s.setELen n).eCnt = s.eCnt := rfl
@[simp] theorem State.setELen_eLen (n : BitVec Config.lenw) : (s.setELen n).eLen = n := rfl
@[simp] theorem State.setELen_dGrp (n : BitVec Config.lenw) : (s.setELen n).dGrp = s.dGrp := rfl
@[simp] theorem State.setELen_dGn (n : BitVec Config.lenw) : (s.setELen n).dGn = s.dGn := rfl
@[simp] theorem State.setELen_dAcc (n : BitVec Config.lenw) : (s.setELen n).dAcc = s.dAcc := rfl
@[simp] theorem State.setELen_dAn (n : BitVec Config.lenw) : (s.setELen n).dAn = s.dAn := rfl
@[simp] theorem State.setELen_dErr (n : BitVec Config.lenw) : (s.setELen n).dErr = s.dErr := rfl
@[simp] theorem State.setELen_res (n : BitVec Config.lenw) : (s.setELen n).res = s.res := rfl
@[simp] theorem State.setELen_ill (n : BitVec Config.lenw) : (s.setELen n).ill = s.ill := rfl
@[simp] theorem State.setELen_encOut (n : BitVec Config.lenw) : (s.setELen n).encOut = s.encOut := rfl
@[simp] theorem State.setELen_decOut (n : BitVec Config.lenw) : (s.setELen n).decOut = s.decOut := rfl
@[simp] theorem State.setELen_input (n : BitVec Config.lenw) : (s.setELen n).input = s.input := rfl

@[simp] theorem State.setGroup_eAcc (grp : BitVec 16) (gn : BitVec 2) : (s.setGroup grp gn).eAcc = s.eAcc := rfl
@[simp] theorem State.setGroup_eCnt (grp : BitVec 16) (gn : BitVec 2) : (s.setGroup grp gn).eCnt = s.eCnt := rfl
@[simp] theorem State.setGroup_eLen (grp : BitVec 16) (gn : BitVec 2) : (s.setGroup grp gn).eLen = s.eLen := rfl
@[simp] theorem State.setGroup_dGrp (grp : BitVec 16) (gn : BitVec 2) : (s.setGroup grp gn).dGrp = grp := rfl
@[simp] theorem State.setGroup_dGn (grp : BitVec 16) (gn : BitVec 2) : (s.setGroup grp gn).dGn = gn := rfl
@[simp] theorem State.setGroup_dAcc (grp : BitVec 16) (gn : BitVec 2) : (s.setGroup grp gn).dAcc = s.dAcc := rfl
@[simp] theorem State.setGroup_dAn (grp : BitVec 16) (gn : BitVec 2) : (s.setGroup grp gn).dAn = s.dAn := rfl
@[simp] theorem State.setGroup_dErr (grp : BitVec 16) (gn : BitVec 2) : (s.setGroup grp gn).dErr = s.dErr := rfl
@[simp] theorem State.setGroup_res (grp : BitVec 16) (gn : BitVec 2) : (s.setGroup grp gn).res = s.res := rfl
@[simp] theorem State.setGroup_ill (grp : BitVec 16) (gn : BitVec 2) : (s.setGroup grp gn).ill = s.ill := rfl
@[simp] theorem State.setGroup_encOut (grp : BitVec 16) (gn : BitVec 2) : (s.setGroup grp gn).encOut = s.encOut := rfl
@[simp] theorem State.setGroup_decOut (grp : BitVec 16) (gn : BitVec 2) : (s.setGroup grp gn).decOut = s.decOut := rfl
@[simp] theorem State.setGroup_input (grp : BitVec 16) (gn : BitVec 2) : (s.setGroup grp gn).input = s.input := rfl

@[simp] theorem State.setJoin_eAcc (acc : BitVec 4) (an : BitVec 3) : (s.setJoin acc an).eAcc = s.eAcc := rfl
@[simp] theorem State.setJoin_eCnt (acc : BitVec 4) (an : BitVec 3) : (s.setJoin acc an).eCnt = s.eCnt := rfl
@[simp] theorem State.setJoin_eLen (acc : BitVec 4) (an : BitVec 3) : (s.setJoin acc an).eLen = s.eLen := rfl
@[simp] theorem State.setJoin_dGrp (acc : BitVec 4) (an : BitVec 3) : (s.setJoin acc an).dGrp = s.dGrp := rfl
@[simp] theorem State.setJoin_dGn (acc : BitVec 4) (an : BitVec 3) : (s.setJoin acc an).dGn = s.dGn := rfl
@[simp] theorem State.setJoin_dAcc (acc : BitVec 4) (an : BitVec 3) : (s.setJoin acc an).dAcc = acc := rfl
@[simp] theorem State.setJoin_dAn (acc : BitVec 4) (an : BitVec 3) : (s.setJoin acc an).dAn = an := rfl
@[simp] theorem State.setJoin_dErr (acc : BitVec 4) (an : BitVec 3) : (s.setJoin acc an).dErr = s.dErr := rfl
@[simp] theorem State.setJoin_res (acc : BitVec 4) (an : BitVec 3) : (s.setJoin acc an).res = s.res := rfl
@[simp] theorem State.setJoin_ill (acc : BitVec 4) (an : BitVec 3) : (s.setJoin acc an).ill = s.ill := rfl
@[simp] theorem State.setJoin_encOut (acc : BitVec 4) (an : BitVec 3) : (s.setJoin acc an).encOut = s.encOut := rfl
@[simp] theorem State.setJoin_decOut (acc : BitVec 4) (an : BitVec 3) : (s.setJoin acc an).decOut = s.decOut := rfl
@[simp] theorem State.setJoin_input (acc : BitVec 4) (an : BitVec 3) : (s.setJoin acc an).input = s.input := rfl

@[simp] theorem State.setDErr_eAcc (n : BitVec Config.errw) : (s.setDErr n).eAcc = s.eAcc := rfl
@[simp] theorem State.setDErr_eCnt (n : BitVec Config.errw) : (s.setDErr n).eCnt = s.eCnt := rfl
@[simp] theorem State.setDErr_eLen (n : BitVec Config.errw) : (s.setDErr n).eLen = s.eLen := rfl
@[simp] theorem State.setDErr_dGrp (n : BitVec Config.errw) : (s.setDErr n).dGrp = s.dGrp := rfl
@[simp] theorem State.setDErr_dGn (n : BitVec Config.errw) : (s.setDErr n).dGn = s.dGn := rfl
@[simp] theorem State.setDErr_dAcc (n : BitVec Config.errw) : (s.setDErr n).dAcc = s.dAcc := rfl
@[simp] theorem State.setDErr_dAn (n : BitVec Config.errw) : (s.setDErr n).dAn = s.dAn := rfl
@[simp] theorem State.setDErr_dErr (n : BitVec Config.errw) : (s.setDErr n).dErr = n := rfl
@[simp] theorem State.setDErr_res (n : BitVec Config.errw) : (s.setDErr n).res = s.res := rfl
@[simp] theorem State.setDErr_ill (n : BitVec Config.errw) : (s.setDErr n).ill = s.ill := rfl
@[simp] theorem State.setDErr_encOut (n : BitVec Config.errw) : (s.setDErr n).encOut = s.encOut := rfl
@[simp] theorem State.setDErr_decOut (n : BitVec Config.errw) : (s.setDErr n).decOut = s.decOut := rfl
@[simp] theorem State.setDErr_input (n : BitVec Config.errw) : (s.setDErr n).input = s.input := rfl

@[simp] theorem State.setRes_eAcc (v : BitVec 32) : (s.setRes v).eAcc = s.eAcc := rfl
@[simp] theorem State.setRes_eCnt (v : BitVec 32) : (s.setRes v).eCnt = s.eCnt := rfl
@[simp] theorem State.setRes_eLen (v : BitVec 32) : (s.setRes v).eLen = s.eLen := rfl
@[simp] theorem State.setRes_dGrp (v : BitVec 32) : (s.setRes v).dGrp = s.dGrp := rfl
@[simp] theorem State.setRes_dGn (v : BitVec 32) : (s.setRes v).dGn = s.dGn := rfl
@[simp] theorem State.setRes_dAcc (v : BitVec 32) : (s.setRes v).dAcc = s.dAcc := rfl
@[simp] theorem State.setRes_dAn (v : BitVec 32) : (s.setRes v).dAn = s.dAn := rfl
@[simp] theorem State.setRes_dErr (v : BitVec 32) : (s.setRes v).dErr = s.dErr := rfl
@[simp] theorem State.setRes_res (v : BitVec 32) : (s.setRes v).res = v := rfl
@[simp] theorem State.setRes_ill (v : BitVec 32) : (s.setRes v).ill = s.ill := rfl
@[simp] theorem State.setRes_encOut (v : BitVec 32) : (s.setRes v).encOut = s.encOut := rfl
@[simp] theorem State.setRes_decOut (v : BitVec 32) : (s.setRes v).decOut = s.decOut := rfl
@[simp] theorem State.setRes_input (v : BitVec 32) : (s.setRes v).input = s.input := rfl

@[simp] theorem State.emitEnc_eAcc (bs : List Byte) : (s.emitEnc bs).eAcc = s.eAcc := rfl
@[simp] theorem State.emitEnc_eCnt (bs : List Byte) : (s.emitEnc bs).eCnt = s.eCnt := rfl
@[simp] theorem State.emitEnc_eLen (bs : List Byte) : (s.emitEnc bs).eLen = s.eLen := rfl
@[simp] theorem State.emitEnc_dGrp (bs : List Byte) : (s.emitEnc bs).dGrp = s.dGrp := rfl
@[simp] theorem State.emitEnc_dGn (bs : List Byte) : (s.emitEnc bs).dGn = s.dGn := rfl
@[simp] theorem State.emitEnc_dAcc (bs : List Byte) : (s.emitEnc bs).dAcc = s.dAcc := rfl
@[simp] theorem State.emitEnc_dAn (bs : List Byte) : (s.emitEnc bs).dAn = s.dAn := rfl
@[simp] theorem State.emitEnc_dErr (bs : List Byte) : (s.emitEnc bs).dErr = s.dErr := rfl
@[simp] theorem State.emitEnc_res (bs : List Byte) : (s.emitEnc bs).res = s.res := rfl
@[simp] theorem State.emitEnc_ill (bs : List Byte) : (s.emitEnc bs).ill = s.ill := rfl
@[simp] theorem State.emitEnc_encOut (bs : List Byte) : (s.emitEnc bs).encOut = s.encOut ++ bs := rfl
@[simp] theorem State.emitEnc_decOut (bs : List Byte) : (s.emitEnc bs).decOut = s.decOut := rfl
@[simp] theorem State.emitEnc_input (bs : List Byte) : (s.emitEnc bs).input = s.input := rfl

@[simp] theorem State.emitDec_eAcc (bs : List Byte) : (s.emitDec bs).eAcc = s.eAcc := rfl
@[simp] theorem State.emitDec_eCnt (bs : List Byte) : (s.emitDec bs).eCnt = s.eCnt := rfl
@[simp] theorem State.emitDec_eLen (bs : List Byte) : (s.emitDec bs).eLen = s.eLen := rfl
@[simp] theorem State.emitDec_dGrp (bs : List Byte) : (s.emitDec bs).dGrp = s.dGrp := rfl
@[simp] theorem State.emitDec_dGn (bs : List Byte) : (s.emitDec bs).dGn = s.dGn := rfl
@[simp] theorem State.emitDec_dAcc (bs : List Byte) : (s.emitDec bs).dAcc = s.dAcc := rfl
@[simp] theorem State.emitDec_dAn (bs : List Byte) : (s.emitDec bs).dAn = s.dAn := rfl
@[simp] theorem State.emitDec_dErr (bs : List Byte) : (s.emitDec bs).dErr = s.dErr := rfl
@[simp] theorem State.emitDec_res (bs : List Byte) : (s.emitDec bs).res = s.res := rfl
@[simp] theorem State.emitDec_ill (bs : List Byte) : (s.emitDec bs).ill = s.ill := rfl
@[simp] theorem State.emitDec_encOut (bs : List Byte) : (s.emitDec bs).encOut = s.encOut := rfl
@[simp] theorem State.emitDec_decOut (bs : List Byte) : (s.emitDec bs).decOut = s.decOut ++ bs := rfl
@[simp] theorem State.emitDec_input (bs : List Byte) : (s.emitDec bs).input = s.input := rfl

@[simp] theorem State.setInput_eAcc (es : List HostEvent) : (s.setInput es).eAcc = s.eAcc := rfl
@[simp] theorem State.setInput_eCnt (es : List HostEvent) : (s.setInput es).eCnt = s.eCnt := rfl
@[simp] theorem State.setInput_eLen (es : List HostEvent) : (s.setInput es).eLen = s.eLen := rfl
@[simp] theorem State.setInput_dGrp (es : List HostEvent) : (s.setInput es).dGrp = s.dGrp := rfl
@[simp] theorem State.setInput_dGn (es : List HostEvent) : (s.setInput es).dGn = s.dGn := rfl
@[simp] theorem State.setInput_dAcc (es : List HostEvent) : (s.setInput es).dAcc = s.dAcc := rfl
@[simp] theorem State.setInput_dAn (es : List HostEvent) : (s.setInput es).dAn = s.dAn := rfl
@[simp] theorem State.setInput_dErr (es : List HostEvent) : (s.setInput es).dErr = s.dErr := rfl
@[simp] theorem State.setInput_res (es : List HostEvent) : (s.setInput es).res = s.res := rfl
@[simp] theorem State.setInput_ill (es : List HostEvent) : (s.setInput es).ill = s.ill := rfl
@[simp] theorem State.setInput_encOut (es : List HostEvent) : (s.setInput es).encOut = s.encOut := rfl
@[simp] theorem State.setInput_decOut (es : List HostEvent) : (s.setInput es).decOut = s.decOut := rfl
@[simp] theorem State.setInput_input (es : List HostEvent) : (s.setInput es).input = es := rfl

@[simp] theorem raiseIllegalCommand_eAcc : (raiseIllegalCommand s).eAcc = s.eAcc := rfl
@[simp] theorem raiseIllegalCommand_eCnt : (raiseIllegalCommand s).eCnt = s.eCnt := rfl
@[simp] theorem raiseIllegalCommand_eLen : (raiseIllegalCommand s).eLen = s.eLen := rfl
@[simp] theorem raiseIllegalCommand_dGrp : (raiseIllegalCommand s).dGrp = s.dGrp := rfl
@[simp] theorem raiseIllegalCommand_dGn : (raiseIllegalCommand s).dGn = s.dGn := rfl
@[simp] theorem raiseIllegalCommand_dAcc : (raiseIllegalCommand s).dAcc = s.dAcc := rfl
@[simp] theorem raiseIllegalCommand_dAn : (raiseIllegalCommand s).dAn = s.dAn := rfl
@[simp] theorem raiseIllegalCommand_dErr : (raiseIllegalCommand s).dErr = s.dErr := rfl
@[simp] theorem raiseIllegalCommand_res : (raiseIllegalCommand s).res = s.res := rfl
@[simp] theorem raiseIllegalCommand_ill : (raiseIllegalCommand s).ill = true := rfl
@[simp] theorem raiseIllegalCommand_encOut : (raiseIllegalCommand s).encOut = s.encOut := rfl
@[simp] theorem raiseIllegalCommand_decOut : (raiseIllegalCommand s).decOut = s.decOut := rfl
@[simp] theorem raiseIllegalCommand_input : (raiseIllegalCommand s).input = s.input := rfl

@[simp] theorem applyReset_eAcc : (applyReset s).eAcc = 0#8 := rfl
@[simp] theorem applyReset_eCnt : (applyReset s).eCnt = 0#4 := rfl
@[simp] theorem applyReset_eLen : (applyReset s).eLen = 0#32 := rfl
@[simp] theorem applyReset_dGrp : (applyReset s).dGrp = 0#16 := rfl
@[simp] theorem applyReset_dGn : (applyReset s).dGn = 0#2 := rfl
@[simp] theorem applyReset_dAcc : (applyReset s).dAcc = 0#4 := rfl
@[simp] theorem applyReset_dAn : (applyReset s).dAn = 0#3 := rfl
@[simp] theorem applyReset_dErr : (applyReset s).dErr = 0#32 := rfl
@[simp] theorem applyReset_res : (applyReset s).res = 0#32 := rfl
@[simp] theorem applyReset_ill : (applyReset s).ill = false := rfl
@[simp] theorem applyReset_encOut : (applyReset s).encOut = s.encOut := rfl
@[simp] theorem applyReset_decOut : (applyReset s).decOut = s.decOut := rfl
@[simp] theorem applyReset_input : (applyReset s).input = s.input := rfl

end Sys2Proof.Machine
end

