-- ==== Sys2Proof/Laws/Framer.lean ====
section
/-! SUPPORT. Everything a micro-operation of the framer can do, said once each (40_block_framer.md R78, R79,
R81). -/

namespace Sys2Proof.Machine

/-- `split_push` answers in the three phases of R78 and in no other. -/
theorem splitPush_cases {b : Byte} {s s' : State} {sym : Option Symbol}
    (h : splitPush b s = .ok (sym, s')) :
    (s.eCnt = 0#4 ∧ sym = none ∧ s' = s.setSplit b 8#4) ∨
    (s.eCnt = 8#4 ∧ sym = some (s.eAcc ++ b.extractLsb' 4 4) ∧
      s' = s.setSplit ((b.extractLsb' 0 4).setWidth 8) 4#4) ∨
    (s.eCnt = 4#4 ∧ sym = some (s.eAcc.extractLsb' 0 4 ++ b) ∧ s' = s.setSplit 0#8 0#4) := by
  unfold splitPush at h
  split at h
  · cases h; exact .inl ⟨‹_›, rfl, rfl⟩
  · split at h
    · cases h; exact .inr (.inl ⟨‹_›, rfl, rfl⟩)
    · split at h
      · cases h; exact .inr (.inr ⟨‹_›, rfl, rfl⟩)
      · cases h

/-- `split_push` refuses exactly outside those phases. -/
theorem splitPush_error {b : Byte} {s : State} {r : Refusal} (h : splitPush b s = .error r) :
    s.eCnt ≠ 0#4 ∧ s.eCnt ≠ 8#4 ∧ s.eCnt ≠ 4#4 ∧ r = .splitPhaseNotCovered := by
  unfold splitPush at h
  split at h
  · cases h
  · split at h
    · cases h
    · split at h <;> cases h
      exact ⟨‹_›, ‹_›, ‹_›, rfl⟩

/-- `split_flush` answers in the three phases of R79 and in no other. -/
theorem splitFlush_cases {s s' : State} {sym : Option Symbol} (h : splitFlush s = .ok (sym, s')) :
    (s.eCnt = 0#4 ∧ sym = none ∧ s' = s) ∨
    (s.eCnt = 8#4 ∧ sym = some (s.eAcc ++ 0#4) ∧ s' = s.setSplit 0#8 0#4) ∨
    (s.eCnt = 4#4 ∧ sym = some (s.eAcc.extractLsb' 0 4 ++ 0#8) ∧ s' = s.setSplit 0#8 0#4) := by
  unfold splitFlush at h
  split at h
  · cases h; exact .inl ⟨‹_›, rfl, rfl⟩
  · split at h
    · cases h; exact .inr (.inl ⟨‹_›, rfl, rfl⟩)
    · split at h
      · cases h; exact .inr (.inr ⟨‹_›, rfl, rfl⟩)
      · cases h

/-- `split_flush` refuses exactly outside those phases. -/
theorem splitFlush_error {s : State} {r : Refusal} (h : splitFlush s = .error r) :
    s.eCnt ≠ 0#4 ∧ s.eCnt ≠ 8#4 ∧ s.eCnt ≠ 4#4 ∧ r = .splitPhaseNotCovered := by
  unfold splitFlush at h
  split at h
  · cases h
  · split at h
    · cases h
    · split at h <;> cases h
      exact ⟨‹_›, ‹_›, ‹_›, rfl⟩

/-- `join_push` answers in the two phases of R81 and in no other. -/
theorem joinPush_cases {sym : Symbol} {s s' : State} {bs : List Byte}
    (h : joinPush sym s = .ok (bs, s')) :
    (s.dAn = 0#3 ∧ bs = [sym.extractLsb' 4 8] ∧ s' = s.setJoin (sym.extractLsb' 0 4) 4#3) ∨
    (s.dAn = 4#3 ∧ bs = [s.dAcc ++ sym.extractLsb' 8 4, sym.extractLsb' 0 8] ∧
      s' = s.setJoin 0#4 0#3) := by
  unfold joinPush at h
  split at h
  · cases h; exact .inl ⟨‹_›, rfl, rfl⟩
  · split at h
    · cases h; exact .inr ⟨‹_›, rfl, rfl⟩
    · cases h

/-- `join_push` refuses exactly outside those phases. -/
theorem joinPush_error {sym : Symbol} {s : State} {r : Refusal} (h : joinPush sym s = .error r) :
    s.dAn ≠ 0#3 ∧ s.dAn ≠ 4#3 ∧ r = .joinPhaseNotCovered := by
  unfold joinPush at h
  split at h
  · cases h
  · split at h <;> cases h
    exact ⟨‹_›, ‹_›, rfl⟩

end Sys2Proof.Machine
end

