-- ==== Sys2Proof/Laws/Commands.lean ====
section
/-! SUPPORT. Everything a command can do when it answers a next state, said once each. -/

namespace Sys2Proof.Machine

@[simp] theorem emitSymbol_none (s : State) : emitSymbol none s = s := rfl

@[simp] theorem emitSymbol_some (x : Symbol) (s : State) :
    emitSymbol (some x) s = (s.emitEnc (codewordBytes (enc24 x))).setELen (s.eLen + 3) := rfl

@[simp] theorem reportLength_eq (s : State) :
    reportLength s = (s.setRes (s.eLen.setWidth 32)).setELen 0 := rfl

theorem execEncb_next {b : Byte} {s t : State} (h : exec (.encb b) s = .next t) :
    ∃ sym s1, splitPush b s = .ok (sym, s1) ∧ t = emitSymbol sym s1 := by
  simp only [exec, execEncb] at h
  split at h
  · cases h
  · cases h; exact ⟨_, _, ‹_›, rfl⟩

theorem execEncend_next {s t : State} (h : exec .encend s = .next t) :
    ∃ sym s1, splitFlush s = .ok (sym, s1) ∧ t = reportLength (emitSymbol sym s1) := by
  simp only [exec, execEncend] at h
  split at h
  · cases h
  · cases h; exact ⟨_, _, ‹_›, rfl⟩

theorem decodeGroup_next {c : Codeword} {s t : State} (h : decodeGroup c s = .next t) :
    ∃ bytes s1, joinPush (dec24 c).1 s = .ok (bytes, s1) ∧
      t = ((s1.setDErr (s1.dErr + BitVec.ofNat Config.errw (dec24 c).2)).setGroup 0#16 0#2).emitDec bytes := by
  unfold decodeGroup at h
  split at h
  · cases h
  · cases h; exact ⟨_, _, ‹_›, rfl⟩

/-- DECB by the number of bytes the group holds (R126). -/
theorem execDecb_next {b : Byte} {s t : State} (h : exec (.decb b) s = .next t) :
    (s.dGn = 0#2 ∧ t = s.setGroup (b ++ 0#8) 1#2) ∨
    (s.dGn = 1#2 ∧ t = s.setGroup (s.dGrp.extractLsb' 8 8 ++ b) 2#2) ∨
    (s.dGn = 2#2 ∧ decodeGroup (s.dGrp ++ b) s = .next t) := by
  simp only [exec, execDecb] at h
  split at h
  · cases h; exact .inl ⟨‹_›, rfl⟩
  · split at h
    · cases h; exact .inr (.inl ⟨‹_›, rfl⟩)
    · split at h
      · exact .inr (.inr ⟨‹_›, h⟩)
      · cases h

end Sys2Proof.Machine
end

