-- ==== Sys2Proof/Laws/Encoding.lean ====
section
/-! SUPPORT. The small lemmas of the command word's fields (30_encoding.md R50). -/

namespace Sys2Proof

@[simp] theorem opField_append (op : BitVec 3) (operand : BitVec 24) :
    Machine.opField (op ++ operand : CommandWord) = op := by
  unfold Machine.opField
  exact BitVec.extractLsb'_append_eq_left

@[simp] theorem operandField_append (op : BitVec 3) (operand : BitVec 24) :
    Machine.operandField (op ++ operand : CommandWord) = operand := by
  unfold Machine.operandField
  exact BitVec.extractLsb'_append_eq_right

/-- A word is its `op` above its `operand` (R50). -/
theorem opField_append_operandField (w : CommandWord) :
    (Machine.opField w ++ Machine.operandField w : CommandWord) = w := by
  apply BitVec.eq_of_getLsbD_eq
  intro i hi
  rw [BitVec.getLsbD_append]
  by_cases h : i < 24
  · simp [Machine.operandField, h]
  · have h1 : i - 24 < 3 := by omega
    have h2 : 24 + (i - 24) = i := by omega
    simp [Machine.opField, h, h1, h2]

@[simp] theorem opField_encode (i : Instr) : Machine.opField (encode i) = opcode i := by
  simp [encode]

@[simp] theorem operandField_encode (i : Instr) : Machine.operandField (encode i) = operandBits i := by
  simp [encode]

/-- The form's reserved bits of a zero-extended operand are zero (R52). -/
theorem reservedBitsZero_setWidth (form : Machine.OperandForm) {k : Nat} (v : BitVec k)
    (h : k ≤ Machine.usedBits form) : Machine.reservedBitsZero form (v.setWidth 24) = true := by
  simp only [Machine.reservedBitsZero, beq_iff_eq]
  apply BitVec.eq_of_getLsbD_eq
  intro i hi
  have hk : v.getLsbD (Machine.usedBits form + i) = false := BitVec.getLsbD_of_ge _ _ (by omega)
  simp [hk]

end Sys2Proof
end

