-- ==== Sys2Proof/Laws/Golay.lean ====
section
/-! SUPPORT. The small lemmas of the transform's parts: fields of a word, and one row at a time. -/

namespace Sys2Proof.Machine

@[simp] theorem dataBits_append (s p : Symbol) : dataBits (s ++ p : Codeword) = s := by
  unfold dataBits
  exact BitVec.extractLsb'_append_eq_left

@[simp] theorem parityBits_append (s p : Symbol) : parityBits (s ++ p : Codeword) = p := by
  unfold parityBits
  exact BitVec.extractLsb'_append_eq_right

@[simp] theorem dataBits_xor (a b : Codeword) : dataBits (a ^^^ b) = dataBits a ^^^ dataBits b := by
  simp [dataBits, BitVec.extractLsb'_xor]

@[simp] theorem parityBits_xor (a b : Codeword) : parityBits (a ^^^ b) = parityBits a ^^^ parityBits b := by
  simp [parityBits, BitVec.extractLsb'_xor]

/-- A word is its data bits above its parity bits (R93). -/
theorem dataBits_append_parityBits (c : Codeword) : (dataBits c ++ parityBits c : Codeword) = c := by
  apply BitVec.eq_of_getLsbD_eq
  intro i hi
  rw [BitVec.getLsbD_append]
  by_cases h : i < 12
  · simp [parityBits, h]
  · have h1 : i - 12 < 12 := by omega
    have h2 : 12 + (i - 12) = i := by omega
    simp [dataBits, h, h1, h2]

/-- What one row adds is linear in the bit that selects it. -/
theorem selectRow_xor (p q : Bool) (row : Symbol) :
    (if p ^^ q then row else 0#12) = (if p then row else 0#12) ^^^ (if q then row else 0#12) := by
  cases p <;> cases q <;> simp

/-- Any rows' sum is linear in the symbol. -/
theorem xorRows_xor (a b : Symbol) (i : Nat) (rows : List Symbol) :
    xorRows (a ^^^ b) i rows = xorRows a i rows ^^^ xorRows b i rows := by
  induction rows generalizing i with
  | nil => simp [xorRows]
  | cons row rest ih =>
    simp only [xorRows, ih, BitVec.getLsbD_xor, selectRow_xor]
    ac_rfl

end Sys2Proof.Machine
end

