-- ==== Sys2Proof/Laws/PerInstr.lean ====
section
/-! SUPPORT. What holds of every instruction as syntax, one lemma per constructor: its encoding is a
well-formed word (30_encoding.md R53). -/

namespace Sys2Proof.Laws.EncodesWellFormed

/-- The word of `i` passes the check of WellFormed. -/
def Statement (i : Instr) : Prop := wellFormedWord (encode i) = true

theorem nop : Statement .nop := by unfold Statement; decide

theorem encsym (s : Symbol) : Statement (.encsym s) := by
  simp only [Statement, wellFormedWord, opField_encode, operandField_encode]
  exact reservedBitsZero_setWidth .s12 s (Nat.le_refl 12)

theorem decsym (c : Codeword) : Statement (.decsym c) := by
  simp only [Statement, wellFormedWord, opField_encode, operandField_encode]
  exact (BitVec.setWidth_eq c) ▸ reservedBitsZero_setWidth .c24 c (Nat.le_refl 24)

theorem encb (b : Byte) : Statement (.encb b) := by
  simp only [Statement, wellFormedWord, opField_encode, operandField_encode]
  exact reservedBitsZero_setWidth .b8 b (Nat.le_refl 8)

theorem encend : Statement .encend := by unfold Statement; decide

theorem decb (b : Byte) : Statement (.decb b) := by
  simp only [Statement, wellFormedWord, opField_encode, operandField_encode]
  exact reservedBitsZero_setWidth .b8 b (Nat.le_refl 8)

theorem decend : Statement .decend := by unfold Statement; decide

end Sys2Proof.Laws.EncodesWellFormed
end

