-- ==== Sys2Proof/Laws/Step.lean ====
section
/-! SUPPORT. Everything a step can do when it answers a next state, said once. -/

namespace Sys2Proof.Machine

/-- A step is idle, a reset, an illegal word, or the meaning of one command. -/
theorem step_cases {s t : State} (h : step s = .next t) :
    (s.input = [] ∧ t = s) ∨
    (∃ e rest, s.input = e :: rest ∧
      ((e = .reset ∧ t = applyReset (s.setInput rest)) ∨
       (∃ w, e = .resetAndCommand w ∧ t = applyReset (s.setInput rest)) ∨
       (∃ w r, e = .command w ∧ decode w = .error r ∧ t = raiseIllegalCommand (s.setInput rest)) ∨
       (∃ w i, e = .command w ∧ decode w = .ok i ∧ exec i (s.setInput rest) = .next t))) := by
  unfold step takeEvent at h
  split at h
  · cases h; exact .inl ⟨‹_›, rfl⟩
  · rename_i e rest he
    refine .inr ⟨e, rest, he, ?_⟩
    cases e with
    | reset => cases h; exact .inl ⟨rfl, rfl⟩
    | resetAndCommand w => cases h; exact .inr (.inl ⟨w, rfl, rfl⟩)
    | command w =>
      simp only [present, execWord] at h
      split at h
      · exact .inr (.inr (.inr ⟨w, _, rfl, ‹_›, h⟩))
      · cases h; exact .inr (.inr (.inl ⟨w, _, rfl, ‹_›, rfl⟩))

end Sys2Proof.Machine
end

