-- ==== Sys2Proof/Tests/Slice0.lean ====
section
/-!
SUPPORT. Tests. Every expected value is from spec/: 95_test_vectors.md (V-n, P n) unless another place is
named. The `witness_` theorems show that the hypotheses of a statement can all be met, each clause's at a
value where it could fail.
-/

namespace Sys2Proof.Tests

open Sys2Proof.Machine

/-- The next state of an outcome, if there is one. -/
def nextOf : Host.Outcome State Fault Refusal → Option State
  | .next t => some t
  | .fault _ => none
  | .refused _ => none

/-- The reset state with some events to come. -/
def presented (es : List HostEvent) : State := { State.reset with input := es }

/-- The split unit in a phase (R11). -/
def splitAt (cnt : BitVec 4) (acc : BitVec 8) : State := { State.reset with eCnt := cnt, eAcc := acc, eLen := 9#32 }

/-- The decode path in a phase (R14 to R18). -/
def groupAt (gn : BitVec 2) (grp : BitVec 16) (an : BitVec 3) (acc : BitVec 4) : State :=
  { State.reset with dGn := gn, dGrp := grp, dAn := an, dAcc := acc, dErr := 1#32 }

/-! ## The check of WellFormed: an ill-formed word for each of its checks (V-80 to V-88) -/

theorem test_illFormed_reservedOp : wellFormedWord 0x7000000#27 = false := by decide
theorem test_illFormed_nop : wellFormedWord 0x0000001#27 = false := by decide
theorem test_illFormed_encsym : wellFormedWord 0x1001000#27 = false := by decide
theorem test_illFormed_encb : wellFormedWord 0x3000100#27 = false := by decide
theorem test_illFormed_encend : wellFormedWord 0x4000001#27 = false := by decide
theorem test_illFormed_decb : wellFormedWord 0x5800000#27 = false := by decide
theorem test_illFormed_decend : wellFormedWord 0x6800000#27 = false := by decide
/-- Boundary legal words, 95_test_vectors.md section 2.9. -/
theorem test_wellFormed_boundary : wellFormedWord 0x1000FFF#27 = true ∧ wellFormedWord 0x30000FF#27 = true ∧
    wellFormedWord 0x50000FF#27 = true ∧ wellFormedWord 0x2FFFFFF#27 = true := by decide

/-! ## Decoding: words written bit by bit from R50 to R52 (op, reserved bits, operand) -/

theorem test_decode_nop : decode 0b000000000000000000000000000#27 = .ok .nop := by decide
theorem test_decode_encsym : decode 0b001000000000000010010000100#27 = .ok (.encsym 0x484#12) := by decide
theorem test_decode_decsym : decode 0b010001010111100010000111100#27 = .ok (.decsym 0x2BC43C#24) := by decide
theorem test_decode_encb : decode 0b011000000000000000001001000#27 = .ok (.encb 0x48#8) := by decide
theorem test_decode_encend : decode 0b100000000000000000000000000#27 = .ok .encend := by decide
theorem test_decode_decb : decode 0b101000000000000000001011000#27 = .ok (.decb 0x58#8) := by decide
theorem test_decode_decend : decode 0b110000000000000000000000000#27 = .ok .decend := by decide
theorem test_decode_reserved : decode 0b111000000000000000000000000#27 = .error .reservedOp := by decide

/-- The opcode table's numbering: one word, bit 0 least significant, with the table's 27 bits in 32. -/
theorem test_decodeTableWord : decodeTableWord 32 0x1000484 = some (.encsym 0x484#12) ∧
    decodeTableWord 32 0x7000000 = none ∧ decodeTableWord 32 0x8000000 = none := by decide

/-! ## One step of each command -/

/-- V-50. -/
theorem test_nop : nextOf (step (State.reset.withFetchWord 32 0x0000000)) = some State.reset := by decide
/-- V-51. -/
theorem test_encsym : (nextOf (step (State.reset.withFetchWord 32 0x1000ABC))).map (·.res) =
    some 0x00ABC43C#32 := by decide
/-- V-29d: four data errors are miscorrected, silently. -/
theorem test_decsym_four_errors : (nextOf (step (State.reset.withFetchWord 32 0x25BC43C))).map (·.res) =
    some 0x000035FC#32 := by decide
/-- V-54: a fallback entry of the table. -/
theorem test_decsym_fallback : (nextOf (step (State.reset.withFetchWord 32 0x2ABC433))).map (·.res) =
    some 0x00003ABC#32 := by decide
/-- V-58. -/
theorem test_encb : (nextOf (exec (.encb 0x4C#8) (splitAt 4#4 0x05#8))).map (fun t => (t.encOut, t.eCnt)) =
    some ([0x54#8, 0xC2#8, 0xEB#8], 0#4) := by decide
/-- V-63: `E_LEN` wraps. -/
theorem test_encb_wraps : (nextOf (exec (.encb 0x45#8)
    { State.reset with eLen := 0xFFFFFFFE#32, eAcc := 0x48#8, eCnt := 8#4 })).map (fun t => (t.encOut, t.eLen)) =
    some ([0x48#8, 0x41#8, 0x95#8], 1#32) := by decide
/-- V-59. -/
theorem test_encend : (nextOf (exec .encend (splitAt 4#4 0x0F#8))).map (fun t => (t.encOut, t.res)) =
    some ([0xF0#8, 0x04#8, 0x2C#8], 12#32) := by decide
/-- V-61: nothing pending. -/
theorem test_encend_aligned : (nextOf (exec .encend { State.reset with eLen := 6#32 })).map
    (fun t => (t.encOut, t.res, t.eLen)) = some ([], 6#32, 0#32) := by decide
/-- V-67. -/
theorem test_decb : (nextOf (exec (.decb 0xEB#8) (groupAt 2#2 0x44C2#16 4#3 0x4#4))).map
    (fun t => (t.decOut, t.dErr)) = some ([0x45#8, 0x4C#8], 2#32) := by decide
/-- V-71: `D_ERR` wraps. -/
theorem test_decb_wraps : (nextOf (exec (.decb 0x95#8)
    { State.reset with dErr := 0xFFFFFFFF#32, dGrp := 0x5841#16, dGn := 2#2 })).map
    (fun t => (t.decOut, t.dErr)) = some ([0x48#8], 0#32) := by decide
/-- V-69: the partial group and the nibble are dropped. -/
theorem test_decend : nextOf (exec .decend { State.reset with dGrp := 0x5500#16, dGn := 1#2, dAcc := 0xC#4, dAn := 4#3 }) =
    some State.reset := by decide
/-- V-68. -/
theorem test_decend_count : (nextOf (exec .decend (groupAt 0#2 0#16 4#3 0x4#4))).map (fun t => (t.res, t.decOut)) =
    some (1#32, []) := by decide
/-- V-85: an illegal ENCB sets `ILL` and pushes no byte. -/
theorem test_illegal : nextOf (step (State.reset.withFetchWord 32 0x3000100)) =
    some { State.reset with ill := true } := by decide
/-- V-91: a reset wins over ENCB 0x48. -/
theorem test_reset_wins : nextOf (step { splitAt 4#4 0x0F#8 with input := [.resetAndCommand 0x3000048#27], ill := true }) =
    some State.reset := by decide
/-- P3, step 8: `ILL` and `D_BUSY`. -/
theorem test_status : status { State.reset with ill := true, dAn := 4#3, dAcc := 0xC#4 } = 0x05#8 := by decide

/-! ## The transform and the framer -/

/-- V-15l, V-16f, V-17f, V-17h. -/
theorem test_transform : enc24 0xABC#12 = 0xABC43C#24 ∧ syn 0x123456#24 = 0x55D#12 ∧
    synRom 0x01F#12 = 0x402400#24 ∧ synRom 0xAE4#12 = 0x800006#24 := by decide
/-- `x^(11 + i) mod g(x)` for `g = 0xAE3`, whose leading term gone is `0x2E3` (R103). -/
def cyclicRemainder : Nat → BitVec 11
  | 0 => 0x2E3#11
  | i + 1 => (cyclicRemainder i <<< 1) ^^^ (if (cyclicRemainder i).getLsbD 10 then 0x2E3#11 else 0#11)

/-- R103: each row of the matrix is a remainder and its parity bit. -/
theorem test_matrix_from_polynomial : parityRows = (List.range 12).map fun i =>
    cyclicRemainder i ++ BitVec.ofNat 1 ((1 + popcount (cyclicRemainder i)) % 2) := by decide

/-- V-29h, V-29r. -/
theorem test_dec24 : dec24 0xAB3433#24 = (0xAA7#12, 3) ∧ dec24 0xDEADBE#24 = (0x96A#12, 3) := by decide
/-- V-5, V-12. -/
theorem test_framer : split [0x01#8, 0x02#8, 0x03#8, 0x04#8] = [0x010#12, 0x203#12, 0x040#12] ∧
    join [0x123#12, 0x456#12, 0x789#12] = [0x12#8, 0x34#8, 0x56#8, 0x78#8] := by decide
/-- V-33. -/
theorem test_encode : encodePayload [0xAB#8, 0xCD#8] =
    ([0xAB#8, 0xC4#8, 0x3C#8, 0xD0#8, 0x09#8, 0x07#8], 6) := by decide
/-- V-44: a miscorrected group and a clean one. -/
theorem test_decode_stream : decodeStream [0x5B#8, 0xC4#8, 0x3C#8, 0xD0#8, 0x09#8, 0x07#8] =
    ([0x5F#8, 0xCD#8, 0x00#8], 3) := by decide
/-- R59's examples. -/
theorem test_assembler : assembleLine "ENCSYM 0x484 ; parity".toList = some [0x1000484#27] ∧
    assembleLine "ENCSYM 0x1000".toList = none ∧ assembleLine ".word 0x7000000".toList = some [0x7000000#27] ∧
    renderInstr (.decsym 0x2BC43C#24) = "DECSYM 0x2BC43C".toList := by decide
/-- R60 with P8. -/
theorem test_pseudo_command : assembleLine "ENCODE 12 34 56".toList =
    some [0x3000012#27, 0x3000034#27, 0x3000056#27, 0x4000000#27] := by decide

/-! ## Witnesses of the statements' hypotheses -/

theorem witness_EncodeOfDecodeIsTheWord : decode 0x1000FFF#27 = .ok (.encsym 0xFFF#12) := by decide

theorem witness_IllegalCommandHasExactlyTheseCauses :
    decode 0x7FFFFFF#27 = .error .reservedOp ∧ decode 0x1001000#27 = .error .reservedOperandBits := by decide

theorem witness_AssemblerEmitsTheWordOfTheCommand :
    assembleLine "DECODE 0xAB".toList = some [0x50000AB#27, 0x6000000#27] ∧
    tokens [] false "DECODE 0xAB".toList ≠ some [.word ".word".toList] := by decide

theorem witness_StepRunsTheDecodedCommand :
    (presented [.command 0x30000FF#27, .reset]).input = [.command 0x30000FF#27, .reset] ∧
    decode 0x30000FF#27 = .ok (.encb 0xFF#8) := by decide

theorem witness_StepWithNothingPresentedIsIdle : State.reset.input = [] := rfl

theorem witness_IllegalCommandSetsOnlyIll :
    (presented [.command 0x3000100#27]).input = [.command 0x3000100#27] ∧
    decode 0x3000100#27 = .error .reservedOperandBits ∧
    nextOf (exec (.decb 0xFF#8) (groupAt 2#2 0xFFFF#16 4#3 0xF#4)) ≠ none := by decide

theorem witness_ResetEventZeroesTheRegisters :
    (presented [.reset]).input = [.reset] ∧
    (presented [.resetAndCommand 0x3000048#27]).input = [.resetAndCommand 0x3000048#27] ∧
    (nextOf (step { presented [.reset] with ill := true })).map (·.ill) = some false := by decide

theorem witness_StepKeepsTheStateInvariant :
    { groupAt 1#2 0xFF00#16 4#3 0xF#4 with eCnt := 4#4, eAcc := 0x0F#8, input := [.command 0x50000FF#27] }.Inv ∧
    nextOf (step { groupAt 1#2 0xFF00#16 4#3 0xF#4 with eCnt := 4#4, eAcc := 0x0F#8, input := [.command 0x50000FF#27] }) ≠ none ∧
    (4294967292#32).toNat % 3 = 0 ∧ (4294967292#32).toNat + 3 < 2 ^ 32 ∧
    (nextOf (step { splitAt 8#4 0#8 with eLen := 4294967292#32, input := [.command 0x3000000#27] })).map (·.eLen) =
      some 0xFFFFFFFF#32 := by decide

theorem witness_EveryStepFromTheInvariantHasASuccessor : (groupAt 2#2 0xFFFF#16 4#3 0xF#4).Inv := by decide

theorem witness_CommandsStopExactlyOutsideTheirPhases :
    nextOf (exec (.encb 0#8) (splitAt 5#4 0#8)) = none ∧ nextOf (exec .encend (splitAt 12#4 0#8)) = none ∧
    nextOf (exec (.decb 0#8) (groupAt 3#2 0#16 0#3 0#4)) = none ∧
    nextOf (exec (.decb 0#8) (groupAt 2#2 0#16 3#3 0#4)) = none ∧
    nextOf (exec (.decb 0#8) (groupAt 1#2 0#16 3#3 0#4)) ≠ none := by decide

theorem witness_NopChangesNothing : (0x000001#24) ≠ 0#24 ∧ (0x800000#24) ≠ 0#24 := by decide

theorem witness_EncsymWritesTheCodeword : (0x000FFF#24).extractLsb' 12 12 = 0#12 ∧
    (0x001000#24).extractLsb' 12 12 ≠ 0#12 := by decide

theorem witness_EncsymResultByColumnMasks : columnMasks[0]? = some 0xAE3#12 ∧ columnMasks[11]? = some 0xF92#12 := by decide

theorem witness_EncbFollowsThePhaseTable :
    (splitAt 0#4 0#8).eCnt = 0#4 ∧ (splitAt 8#4 0xFF#8).eCnt = 8#4 ∧ (splitAt 4#4 0x0F#8).eCnt = 4#4 ∧
    (0x0000FF#24).extractLsb' 8 16 = 0#16 ∧ (0x000100#24).extractLsb' 8 16 ≠ 0#16 := by decide

theorem witness_EncendFlushesAndReportsTheLength :
    (splitAt 0#4 0#8).EncodeInv ∧ (splitAt 0#4 0#8).eCnt = 0#4 ∧ (splitAt 8#4 0xFF#8).eCnt = 8#4 ∧
    (splitAt 4#4 0x0F#8).eCnt = 4#4 ∧ (0x000001#24) ≠ 0#24 := by decide

theorem witness_DecbFollowsThePhaseTable :
    (groupAt 0#2 0#16 4#3 0xF#4).dGn = 0#2 ∧ (groupAt 1#2 0xFF00#16 0#3 0#4).dGn = 1#2 ∧
    ((groupAt 2#2 0xFFFF#16 0#3 0#4).dGn = 2#2 ∧ (groupAt 2#2 0xFFFF#16 0#3 0#4).dAn = 0#3) ∧
    ((groupAt 2#2 0xFFFF#16 4#3 0xF#4).dGn = 2#2 ∧ (groupAt 2#2 0xFFFF#16 4#3 0xF#4).dAn = 4#3) ∧
    (0x0000FF#24).extractLsb' 8 16 = 0#16 ∧ (0x000100#24).extractLsb' 8 16 ≠ 0#16 := by decide

theorem witness_DecendReportsTheCountAndDropsTheRest : (0x000001#24) ≠ 0#24 := by decide

theorem witness_CommandsWriteOnlyTheirOwnPath :
    (onEncodePath .encend = true ∧ nextOf (exec .encend (splitAt 8#4 0xFF#8)) ≠ none) ∧
    (onDecodePath (.decb 0xFF#8) = true ∧ nextOf (exec (.decb 0xFF#8) (groupAt 2#2 0xFFFF#16 4#3 0xF#4)) ≠ none) ∧
    (onEncodePath (.decsym 0#24) = false ∧ onDecodePath (.decsym 0#24) = false ∧
     nextOf (exec (.decsym 0#24) State.reset) ≠ none) := by decide

theorem witness_PathsAreIndependent :
    (onEncodePath (.encb 0xFF#8) = true ∧
     (splitAt 8#4 0xFF#8).SameEncodePath { splitAt 8#4 0xFF#8 with dGn := 2#2, res := 1#32, ill := true } ∧
     nextOf (exec (.encb 0xFF#8) (splitAt 8#4 0xFF#8)) ≠ none) ∧
    (onDecodePath (.decb 0xFF#8) = true ∧
     (groupAt 2#2 0xFFFF#16 4#3 0xF#4).SameDecodePath { groupAt 2#2 0xFFFF#16 4#3 0xF#4 with eCnt := 8#4, ill := true } ∧
     nextOf (exec (.decb 0xFF#8) (groupAt 2#2 0xFFFF#16 4#3 0xF#4)) ≠ none) ∧
    (onEncodePath .nop = false ∧ onDecodePath .nop = false ∧ nextOf (exec .nop (splitAt 8#4 0#8)) ≠ none) ∧
    (onEncodePath .decend = false ∧ nextOf (exec .decend (splitAt 8#4 0#8)) ≠ none) ∧
    (onDecodePath .encend = false ∧ nextOf (exec .encend (splitAt 8#4 0#8)) ≠ none) := by decide

theorem witness_ResIsWrittenByFourCommandsAndReadByNone :
    nextOf (exec .nop State.reset) ≠ none ∧ nextOf (exec (.encb 0xFF#8) (splitAt 8#4 0xFF#8)) ≠ none ∧
    nextOf (exec (.decb 0xFF#8) (groupAt 2#2 0xFFFF#16 4#3 0xF#4)) ≠ none ∧
    (decode 0x7FFFFFF#27 = .error .reservedOp ∧ nextOf (execWord 0x7FFFFFF#27 State.reset) ≠ none) ∧
    nextOf (exec (.encsym 0xFFF#12) State.reset) ≠ none ∧ nextOf (exec (.decsym 0xFFFFFF#24) State.reset) ≠ none ∧
    nextOf (exec .encend (splitAt 4#4 0x0F#8)) ≠ none ∧ nextOf (exec .decend State.reset) ≠ none := by decide

theorem witness_StreamsAreAppendOnly :
    nextOf (step { splitAt 4#4 0x0F#8 with encOut := [1#8], input := [.command 0x4000000#27] }) ≠ none ∧
    nextOf (step { presented [.reset] with encOut := [1#8], decOut := [2#8] }) ≠ none ∧
    nextOf (exec .encend { splitAt 4#4 0x0F#8 with encOut := [1#8] }) ≠ none := by decide

theorem witness_CommandsAppendTheseManyBytes :
    nextOf (exec (.decb 0xFF#8) (groupAt 2#2 0xFFFF#16 4#3 0xF#4)) ≠ none ∧
    nextOf (exec .encend (splitAt 8#4 0xFF#8)) ≠ none := by decide

theorem witness_EndMarkersReturnThePathToReset :
    ((splitAt 8#4 0xFF#8).EncodeInv ∧ nextOf (exec .encend (splitAt 8#4 0xFF#8)) ≠ none) ∧
    nextOf (exec .decend (groupAt 2#2 0xFFFF#16 4#3 0xF#4)) ≠ none := by decide

/-- Three bytes pushed with an illegal word and a command of the other path between. -/
theorem witness_PhaseCountersCountThePushedBytes :
    (State.reset.eCnt = 0#4 ∧
     pathCommands onEncodePath [0x3000012#27, 0x7000000#27, 0x6000000#27, 0x3000034#27] = [0x12#8, 0x34#8].map .encb ∧
     (nextOf (stepN 4 (presented ([0x3000012#27, 0x7000000#27, 0x6000000#27, 0x3000034#27].map .command)))).map (·.eCnt) =
       some 4#4) ∧
    (State.reset.dGn = 0#2 ∧ State.reset.dAn = 0#3 ∧
     pathCommands onDecodePath [0x5000012#27, 0x4000000#27, 0x5000034#27] = [0x12#8, 0x34#8].map .decb ∧
     (nextOf (stepN 3 (presented ([0x5000012#27, 0x4000000#27, 0x5000034#27].map .command)))).map (·.dGn) =
       some 2#2) := by decide

theorem witness_ParityIsLinearAndFollowsTheColumnMasks :
    parityRows[0]? = some 0x5C7#12 ∧ parityRows[11]? = some 0xAE3#12 ∧ columnMasks[0]? = some 0xAE3#12 ∧
    columnMasks[11]? = some 0xF92#12 := by decide

theorem witness_CodeHasDistanceEight :
    (0x000#12) ≠ 0xF00#12 ∧ parityRows[0]? = some 0x5C7#12 ∧ parityRows[11]? = some 0xAE3#12 ∧
    enc24 0xFFF#12 = enc24 0xFFF#12 := by decide

theorem witness_SyndromeDependsOnTheErrorAlone :
    syn 0xABC43C#24 = 0#12 ∧ 0 ≤ 11 ∧ 11 ≤ 11 ∧ parityRows[0]? = some 0x5C7#12 ∧
    parityRows[11]? = some 0xAE3#12 := by decide

theorem witness_TableCoversEveryPatternOfWeightThree :
    popcount 0xE00000#24 ≤ 3 ∧ popcount 0x000007#24 ≤ 3 ∧ syn 0xE00000#24 = syn 0xE00000#24 := by decide

theorem witness_TableFillsTheUncoveredSyndromes :
    popcount 0x00000E#24 = 3 ∧ (0x00000E#24).getLsbD 0 = false ∧ syn (0x00000E#24 ^^^ 0x000001#24) = 0x00F#12 := by decide

theorem witness_TableMeetsTheListingChecks :
    syn (synRom 0x00F#12) ≠ 0x00F#12 ∧ 0 ≤ 11 ∧ 11 ≤ 11 ∧ parityRows[0]? = some 0x5C7#12 ∧
    parityRows[11]? = some 0xAE3#12 := by decide

theorem witness_ZeroSyndromeReadsTheDataBits : syn 0xABD1FB#24 = 0#12 := by decide

theorem witness_UpToThreeErrorsAreCorrected :
    popcount 0x100101#24 ≤ 3 ∧ (fun _ : BitVec 12 => 0x100101#24) (syn 0x100101#24) = 0x100101#24 := by decide

theorem witness_HeavierErrorsStillGiveACountOfAtMostThree : popcount 0xF00000#24 = 4 := by decide

theorem witness_TableAgreesWithThePerfectCodeDecoder :
    (popcount 0x00000E#24 ≤ 3 ∧ (0x00000E#24).getLsbD 0 = false ∧
     (syn 0x00000E#24).extractLsb' 1 11 = 7#11 ∧ (syn 0x00000F#24).extractLsb' 1 11 = 7#11) ∧
    (popcount 0x000006#24 ≤ 2 ∧ (0x000006#24).getLsbD 0 = false ∧
     (syn 0x000006#24).extractLsb' 1 11 = (syn 0x000007#24).extractLsb' 1 11) := by decide

theorem witness_SplitInClosedForm :
    ([0x12#8, 0x34#8, 0x56#8][3 * 0]? = some 0x12#8 ∧ [0x12#8, 0x34#8, 0x56#8][3 * 0 + 1]? = some 0x34#8 ∧
     [0x12#8, 0x34#8, 0x56#8][3 * 0 + 2]? = some 0x56#8) ∧
    ([] : List Byte).length = 3 * 0 ∧
    ([0xFF#8].length = 3 * 0 + 1 ∧ [0xFF#8][3 * 0]? = some 0xFF#8) ∧
    ([0xAB#8, 0xCD#8].length = 3 * 0 + 2 ∧ [0xAB#8, 0xCD#8][3 * 0]? = some 0xAB#8 ∧
     [0xAB#8, 0xCD#8][3 * 0 + 1]? = some 0xCD#8) := by decide

theorem witness_JoinInClosedForm :
    ([0xABC#12, 0xDEF#12][2 * 0]? = some 0xABC#12 ∧ [0xABC#12, 0xDEF#12][2 * 0 + 1]? = some 0xDEF#12) ∧
    ([] : List Symbol).length = 2 * 0 ∧
    ([0x123#12, 0x456#12, 0x789#12].length = 2 * 1 + 1 ∧
     [0x123#12, 0x456#12, 0x789#12][2 * 1]? = some 0x789#12) := by decide

theorem witness_SplitUnitComputesSplit : State.reset.EncodeInv ∧ State.reset.eCnt = 0#4 := by decide

theorem witness_JoinUnitComputesJoin : State.reset.dAn = 0#3 := rfl

theorem witness_LengthLaws : ([] : List Byte).length % 3 = 0 ∧ [0#8].length % 3 = 1 ∧ [0#8, 0#8].length % 3 = 2 ∧
    [0#8, 0#8].length / 3 % 2 = 0 ∧ [0#8, 0#8, 0#8].length / 3 % 2 = 1 := by decide

/-- A state on which the encode path is idle and the decode path is not. -/
def encodeIdle : State :=
  { groupAt 2#2 0xFFFF#16 4#3 0xF#4 with
    input := [0x30000AB#27, 0x7000000#27, 0x50000C4#27, 0x30000CD#27].map .command ++ .command (encode .encend) :: [.reset] }

theorem witness_EncodePathComputesEncode :
    encodeIdle.Inv ∧ encodeIdle.eCnt = 0#4 ∧ encodeIdle.eLen = 0#32 ∧
    pathCommands onEncodePath [0x30000AB#27, 0x7000000#27, 0x50000C4#27, 0x30000CD#27] = [0xAB#8, 0xCD#8].map .encb ∧
    encodeIdle.input =
      [0x30000AB#27, 0x7000000#27, 0x50000C4#27, 0x30000CD#27].map .command ++ .command (encode .encend) :: [.reset] := by
  decide

/-- A state on which the decode path is idle and the encode path is not. -/
def decodeIdle : State :=
  { splitAt 8#4 0xFF#8 with
    input := [0x50000AB#27, 0x7000000#27, 0x30000CD#27].map .command ++ .command (encode .decend) :: [] }

theorem witness_DecodePathComputesDecode :
    decodeIdle.Inv ∧ decodeIdle.dGn = 0#2 ∧ decodeIdle.dAn = 0#3 ∧ decodeIdle.dErr = 0#32 ∧
    pathCommands onDecodePath [0x50000AB#27, 0x7000000#27, 0x30000CD#27] = [0xAB#8].map .decb ∧
    decodeIdle.input = [0x50000AB#27, 0x7000000#27, 0x30000CD#27].map .command ++ .command (encode .decend) :: [] := by
  decide

theorem witness_RoundTripThroughANoisyChannel :
    [0x80#8, 0x08#8, 0x01#8].length = (encodePayload [0xAB#8]).1.length ∧
    ∀ g ∈ groupWords [0x80#8, 0x08#8, 0x01#8], popcount g ≤ 3 := by
  refine ⟨by decide, fun g hg => ?_⟩
  have h : g = 0x800801#24 := by simpa [groupWords] using hg
  subst h
  decide

/-- Beside the hypotheses that `witness_EncodePathComputesEncode` and `witness_DecodePathComputesDecode` meet
on the same states. -/
theorem witness_ReportedCountsAreExactInRange :
    [0xAB#8].length ≤ 2 ^ 31 - 2 ∧ 3 * ((8 * [0xAB#8, 0xCD#8].length + 11) / 12) < 2 ^ 32 ∧
    nextOf (stepN 5 encodeIdle) ≠ none ∧ (decodeStream [0xAB#8]).2 < 2 ^ 32 ∧ nextOf (stepN 4 decodeIdle) ≠ none := by
  decide

end Sys2Proof.Tests
end

/-!
Proofs of the statements about the state (10_state.md): the invariant of R23, the result register of R19
and the output streams of R26. Two facts carry them: a command leaves the path it does not own alone, and
no command reads what the host observes (`exec_withUnread`).
-/

namespace Sys2Proof.Machine

/-! ## The bytes of a completed symbol -/

/-- The bytes that a completed symbol puts on `ENC_OUT`; no symbol, no bytes (R124, R125). -/
def symbolBytes (sym : Option Symbol) : List Byte := sym.elim [] fun x => codewordBytes (enc24 x)

/-- `E_LEN` grows by the number of bytes emitted, with and without a symbol. -/
theorem emitSymbol_eq (sym : Option Symbol) (s : State) :
    emitSymbol sym s =
      (s.emitEnc (symbolBytes sym)).setELen (s.eLen + BitVec.ofNat 32 (symbolBytes sym).length) := by
  cases sym with
  | none => simp [symbolBytes, State.emitEnc, State.setELen]
  | some x => rfl

/-! ## The path a command does not own stays as it is (20_memory.md R46) -/

theorem splitPush_eq_setSplit {b : Byte} {s s' : State} {sym : Option Symbol}
    (h : splitPush b s = .ok (sym, s')) : ∃ acc cnt, s' = s.setSplit acc cnt := by
  obtain ⟨-, -, hs⟩ | ⟨-, -, hs⟩ | ⟨-, -, hs⟩ := splitPush_cases h <;> exact ⟨_, _, hs⟩

theorem splitFlush_eq_setSplit {s s' : State} {sym : Option Symbol}
    (h : splitFlush s = .ok (sym, s')) : ∃ acc cnt, s' = s.setSplit acc cnt := by
  obtain ⟨-, -, hs⟩ | ⟨-, -, hs⟩ | ⟨-, -, hs⟩ := splitFlush_cases h
  · exact ⟨s.eAcc, s.eCnt, hs⟩
  · exact ⟨_, _, hs⟩
  · exact ⟨_, _, hs⟩

theorem joinPush_eq_setJoin {x : Symbol} {s s' : State} {bs : List Byte}
    (h : joinPush x s = .ok (bs, s')) : ∃ acc an, s' = s.setJoin acc an := by
  obtain ⟨-, -, hs⟩ | ⟨-, -, hs⟩ := joinPush_cases h <;> exact ⟨_, _, hs⟩

theorem decodeGroup_sameEncodePath {c : Codeword} {s t : State} (h : decodeGroup c s = .next t) :
    s.SameEncodePath t := by
  obtain ⟨bytes, s1, hjoin, rfl⟩ := decodeGroup_next h
  obtain ⟨acc, an, rfl⟩ := joinPush_eq_setJoin hjoin
  exact ⟨rfl, rfl, rfl, rfl⟩

theorem exec_sameEncodePath {i : Instr} {s t : State} (hi : onEncodePath i = false)
    (h : exec i s = .next t) : s.SameEncodePath t := by
  cases i with
  | encb | encend => cases hi
  | nop | encsym | decsym | decend => cases h; exact ⟨rfl, rfl, rfl, rfl⟩
  | decb b =>
    obtain ⟨-, rfl⟩ | ⟨-, rfl⟩ | ⟨-, hgroup⟩ := execDecb_next h
    · exact ⟨rfl, rfl, rfl, rfl⟩
    · exact ⟨rfl, rfl, rfl, rfl⟩
    · exact decodeGroup_sameEncodePath hgroup

theorem exec_sameDecodePath {i : Instr} {s t : State} (hi : onDecodePath i = false)
    (h : exec i s = .next t) : s.SameDecodePath t := by
  cases i with
  | decb | decend => cases hi
  | nop | encsym | decsym => cases h; exact ⟨rfl, rfl, rfl, rfl, rfl, rfl⟩
  | encb b =>
    obtain ⟨sym, s1, hpush, rfl⟩ := execEncb_next h
    obtain ⟨acc, cnt, rfl⟩ := splitPush_eq_setSplit hpush
    rw [emitSymbol_eq]
    exact ⟨rfl, rfl, rfl, rfl, rfl, rfl⟩
  | encend =>
    obtain ⟨sym, s1, hflush, rfl⟩ := execEncend_next h
    obtain ⟨acc, cnt, rfl⟩ := splitFlush_eq_setSplit hflush
    rw [emitSymbol_eq]
    exact ⟨rfl, rfl, rfl, rfl, rfl, rfl⟩

/-! ## The invariant of R23 -/

theorem State.reset_inv : State.reset.Inv := by decide

/-- The invariant speaks of no field that a reset keeps. -/
theorem applyReset_inv (s : State) : (applyReset s).Inv := State.reset_inv

theorem State.EncodeInv.of_sameEncodePath {s t : State} (hs : s.EncodeInv) (h : s.SameEncodePath t) :
    t.EncodeInv := by
  obtain ⟨hacc, hcnt, -, -⟩ := h
  unfold State.EncodeInv at *
  rwa [← hacc, ← hcnt]

theorem State.DecodeInv.of_sameDecodePath {s t : State} (hs : s.DecodeInv) (h : s.SameDecodePath t) :
    t.DecodeInv := by
  obtain ⟨hgrp, hgn, hacc, han, -, -⟩ := h
  unfold State.DecodeInv at *
  rwa [← hgrp, ← hgn, ← hacc, ← han]

/-- The low half of a byte, zero-extended, has an empty high half. -/
theorem extractLsb'_high_setWidth_low (b : Byte) :
    ((b.extractLsb' 0 4).setWidth 8).extractLsb' 4 4 = 0#4 := by
  ext i
  simp [BitVec.getElem_extractLsb', BitVec.getLsbD_setWidth]

/-- Each phase of the split unit leaves the clauses of the next one, whatever the state before. -/
theorem splitPush_encodeInv {b : Byte} {s s' : State} {sym : Option Symbol}
    (h : splitPush b s = .ok (sym, s')) : s'.EncodeInv := by
  obtain ⟨-, -, rfl⟩ | ⟨-, -, rfl⟩ | ⟨-, -, rfl⟩ := splitPush_cases h
  · simp [State.EncodeInv]
  · simp [State.EncodeInv, extractLsb'_high_setWidth_low]
  · simp [State.EncodeInv]

theorem splitFlush_encodeInv {s s' : State} {sym : Option Symbol} (hs : s.EncodeInv)
    (h : splitFlush s = .ok (sym, s')) : s'.EncodeInv := by
  obtain ⟨-, -, rfl⟩ | ⟨-, -, rfl⟩ | ⟨-, -, rfl⟩ := splitFlush_cases h
  · exact hs
  · simp [State.EncodeInv]
  · simp [State.EncodeInv]

theorem exec_encodeInv {i : Instr} {s t : State} (hs : s.EncodeInv) (h : exec i s = .next t) :
    t.EncodeInv := by
  cases hi : onEncodePath i with
  | false => exact hs.of_sameEncodePath (exec_sameEncodePath hi h)
  | true =>
    cases i with
    | nop | encsym | decsym | decb | decend => cases hi
    | encb b =>
      obtain ⟨sym, s1, hpush, rfl⟩ := execEncb_next h
      rw [emitSymbol_eq]
      exact splitPush_encodeInv (s' := s1) hpush
    | encend =>
      obtain ⟨sym, s1, hflush, rfl⟩ := execEncend_next h
      rw [emitSymbol_eq]
      exact splitFlush_encodeInv (s' := s1) hs hflush

/-- A whole group leaves the group empty and the join unit in one of its two phases. -/
theorem decodeGroup_decodeInv {c : Codeword} {s t : State} (h : decodeGroup c s = .next t) :
    t.DecodeInv := by
  obtain ⟨bytes, s1, hjoin, rfl⟩ := decodeGroup_next h
  obtain ⟨-, -, rfl⟩ | ⟨-, -, rfl⟩ := joinPush_cases hjoin <;> simp [State.DecodeInv]

theorem execDecb_decodeInv {b : Byte} {s t : State} (hs : s.DecodeInv)
    (h : exec (.decb b) s = .next t) : t.DecodeInv := by
  obtain ⟨-, -, -, han, hacc⟩ := hs
  obtain ⟨-, rfl⟩ | ⟨-, rfl⟩ | ⟨-, hgroup⟩ := execDecb_next h
  · exact ⟨.inr (.inl rfl), by simp, fun _ => BitVec.extractLsb'_append_eq_right, han, hacc⟩
  · exact ⟨.inr (.inr rfl), by simp, by simp, han, hacc⟩
  · exact decodeGroup_decodeInv hgroup

theorem exec_decodeInv {i : Instr} {s t : State} (hs : s.DecodeInv) (h : exec i s = .next t) :
    t.DecodeInv := by
  cases hi : onDecodePath i with
  | false => exact hs.of_sameDecodePath (exec_sameDecodePath hi h)
  | true =>
    cases i with
    | nop | encsym | decsym | encb | encend => cases hi
    | decb b => exact execDecb_decodeInv hs h
    | decend => cases h; simp [joinFlush, State.DecodeInv]

theorem exec_inv {i : Instr} {s t : State} (hs : s.Inv) (h : exec i s = .next t) : t.Inv :=
  ⟨exec_encodeInv hs.1 h, exec_decodeInv hs.2 h⟩

theorem step_inv {s t : State} (hs : s.Inv) (h : step s = .next t) : t.Inv := by
  obtain ⟨-, rfl⟩ | ⟨e, rest, -, ⟨-, rfl⟩ | ⟨w, -, rfl⟩ | ⟨w, r, -, -, rfl⟩ | ⟨w, i, -, -, hexec⟩⟩ :=
    step_cases h
  · exact hs
  · exact applyReset_inv _
  · exact applyReset_inv _
  · exact hs
  · exact exec_inv (s := s.setInput rest) hs hexec

/-! ## How `E_LEN` moves (R13) -/

theorem emitSymbol_eLen (sym : Option Symbol) (s : State) :
    (emitSymbol sym s).eLen = s.eLen ∨ (emitSymbol sym s).eLen = s.eLen + 3 := by
  cases sym with
  | none => exact .inl rfl
  | some x => exact .inr rfl

/-- A command keeps `E_LEN`, adds one codeword's bytes, or clears it. -/
theorem exec_eLen {i : Instr} {s t : State} (h : exec i s = .next t) :
    t.eLen = s.eLen ∨ t.eLen = s.eLen + 3 ∨ t.eLen = 0 := by
  cases hi : onEncodePath i with
  | false =>
    obtain ⟨-, -, hlen, -⟩ := exec_sameEncodePath hi h
    exact .inl hlen.symm
  | true =>
    cases i with
    | nop | encsym | decsym | decb | decend => cases hi
    | encb b =>
      obtain ⟨sym, s1, hpush, rfl⟩ := execEncb_next h
      obtain ⟨acc, cnt, rfl⟩ := splitPush_eq_setSplit hpush
      exact (emitSymbol_eLen sym _).imp_right .inl
    | encend =>
      obtain ⟨sym, s1, -, rfl⟩ := execEncend_next h
      exact .inr (.inr rfl)

theorem step_eLen {s t : State} (h : step s = .next t) :
    t.eLen = s.eLen ∨ t.eLen = s.eLen + 3 ∨ t.eLen = 0 := by
  obtain ⟨-, rfl⟩ | ⟨e, rest, -, ⟨-, rfl⟩ | ⟨w, -, rfl⟩ | ⟨w, r, -, -, rfl⟩ | ⟨w, i, -, -, hexec⟩⟩ :=
    step_cases h
  · exact .inl rfl
  · exact .inr (.inr rfl)
  · exact .inr (.inr rfl)
  · exact .inl rfl
  · exact exec_eLen (s := s.setInput rest) hexec

theorem step_eLen_mod_three {s t : State} (hmod : s.eLen.toNat % 3 = 0)
    (hwrap : s.eLen.toNat + 3 < 2 ^ 32) (h : step s = .next t) : t.eLen.toNat % 3 = 0 := by
  obtain hlen | hlen | hlen := step_eLen h
  · rwa [hlen]
  · have hadd : (s.eLen + 3).toNat = s.eLen.toNat + 3 := by
      rw [BitVec.toNat_add]
      exact Nat.mod_eq_of_lt hwrap
    rw [hlen, hadd]
    omega
  · rw [hlen]
    rfl

/-- Settles O12: the encode path's clauses and the decode path's clauses are each kept by the commands that
own the path and out of reach of the others. -/
theorem stepKeepsTheStateInvariant : Obligations.StepKeepsTheStateInvariant :=
  ⟨⟨State.reset_inv, rfl⟩, fun _ _ => step_inv, fun _ _ => step_eLen_mod_three⟩

/-- Settles O11. -/
theorem resetStateMeetsTheInvariant : Obligations.ResetStateMeetsTheInvariant :=
  ⟨rfl, rfl, rfl, rfl, rfl, rfl, rfl, rfl, rfl, rfl, rfl, State.reset_inv⟩

/-! ## What no command reads -/

/-- The fields that no command reads: `RES` (R19), `ILL` (R20), the two output streams (R26), and the events
still to come. -/
structure Unread where
  res : BitVec 32
  ill : Bool
  encOut : List Byte
  decOut : List Byte
  input : List HostEvent

/-- The unread fields of a state. -/
def State.unread (s : State) : Unread where
  res := s.res
  ill := s.ill
  encOut := s.encOut
  decOut := s.decOut
  input := s.input

/-- The state with other unread fields. -/
def State.withUnread (s : State) (u : Unread) : State :=
  { s with res := u.res, ill := u.ill, encOut := u.encOut, decOut := u.decOut, input := u.input }

/-- The commands that write `RES` (R19). -/
def writesRes : Instr → Bool
  | .encsym _ | .decsym _ | .encend | .decend => true
  | .nop | .encb _ | .decb _ => false

/-- The unread fields after the command `i`, when it appends `a` and `b` to the streams and leaves the value
`r` in `RES` if it writes it. -/
def Unread.after (i : Instr) (r : BitVec 32) (a b : List Byte) (u : Unread) : Unread :=
  { u with
    res := if writesRes i then r else u.res
    encOut := u.encOut ++ a
    decOut := u.decOut ++ b }

section ReadFields

variable (s : State) (u : Unread)

@[simp] theorem State.withUnread_eAcc : (s.withUnread u).eAcc = s.eAcc := rfl
@[simp] theorem State.withUnread_eCnt : (s.withUnread u).eCnt = s.eCnt := rfl
@[simp] theorem State.withUnread_dGrp : (s.withUnread u).dGrp = s.dGrp := rfl
@[simp] theorem State.withUnread_dGn : (s.withUnread u).dGn = s.dGn := rfl
@[simp] theorem State.withUnread_dAcc : (s.withUnread u).dAcc = s.dAcc := rfl
@[simp] theorem State.withUnread_dAn : (s.withUnread u).dAn = s.dAn := rfl

@[simp] theorem State.setSplit_withUnread (acc : BitVec 8) (cnt : BitVec 4) :
    (s.withUnread u).setSplit acc cnt = (s.setSplit acc cnt).withUnread u := rfl

@[simp] theorem State.setGroup_withUnread (grp : BitVec 16) (gn : BitVec 2) :
    (s.withUnread u).setGroup grp gn = (s.setGroup grp gn).withUnread u := rfl

@[simp] theorem State.setJoin_withUnread (acc : BitVec 4) (an : BitVec 3) :
    (s.withUnread u).setJoin acc an = (s.setJoin acc an).withUnread u := rfl

end ReadFields

theorem splitPush_withUnread {b : Byte} {s s' : State} {sym : Option Symbol}
    (h : splitPush b s = .ok (sym, s')) (u : Unread) :
    splitPush b (s.withUnread u) = .ok (sym, s'.withUnread u) := by
  obtain ⟨hcnt, rfl, rfl⟩ | ⟨hcnt, rfl, rfl⟩ | ⟨hcnt, rfl, rfl⟩ := splitPush_cases h <;>
    simp [splitPush, hcnt]

theorem splitFlush_withUnread {s s' : State} {sym : Option Symbol}
    (h : splitFlush s = .ok (sym, s')) (u : Unread) :
    splitFlush (s.withUnread u) = .ok (sym, s'.withUnread u) := by
  obtain ⟨hcnt, rfl, rfl⟩ | ⟨hcnt, rfl, rfl⟩ | ⟨hcnt, rfl, rfl⟩ := splitFlush_cases h <;>
    simp [splitFlush, hcnt]

theorem joinPush_withUnread {x : Symbol} {s s' : State} {bs : List Byte}
    (h : joinPush x s = .ok (bs, s')) (u : Unread) :
    joinPush x (s.withUnread u) = .ok (bs, s'.withUnread u) := by
  obtain ⟨han, rfl, rfl⟩ | ⟨han, rfl, rfl⟩ := joinPush_cases h <;> simp [joinPush, han]

theorem emitSymbol_withUnread (sym : Option Symbol) (s : State) (u : Unread) :
    emitSymbol sym (s.withUnread u) =
      (emitSymbol sym s).withUnread { u with encOut := u.encOut ++ symbolBytes sym } := by
  rw [emitSymbol_eq, emitSymbol_eq]
  rfl

theorem execEncb_withUnread {b : Byte} {s t : State} (h : exec (.encb b) s = .next t) :
    ∃ a, ∀ u, exec (.encb b) (s.withUnread u) =
      .next (t.withUnread { u with encOut := u.encOut ++ a }) := by
  obtain ⟨sym, s1, hpush, rfl⟩ := execEncb_next h
  refine ⟨symbolBytes sym, fun u => ?_⟩
  simp [exec, execEncb, splitPush_withUnread hpush, emitSymbol_withUnread]

theorem execEncend_withUnread {s t : State} (h : exec .encend s = .next t) :
    ∃ a, ∀ u, exec .encend (s.withUnread u) =
      .next (t.withUnread { u with res := t.res, encOut := u.encOut ++ a }) := by
  obtain ⟨sym, s1, hflush, rfl⟩ := execEncend_next h
  refine ⟨symbolBytes sym, fun u => ?_⟩
  simp only [exec, execEncend, splitFlush_withUnread hflush, emitSymbol_withUnread]
  rfl

theorem decodeGroup_withUnread {c : Codeword} {s t : State} (h : decodeGroup c s = .next t) :
    ∃ b, ∀ u, decodeGroup c (s.withUnread u) =
      .next (t.withUnread { u with decOut := u.decOut ++ b }) := by
  obtain ⟨bytes, s1, hjoin, rfl⟩ := decodeGroup_next h
  refine ⟨bytes, fun u => ?_⟩
  simp only [decodeGroup, joinPush_withUnread hjoin]
  rfl

theorem execDecb_withUnread {b : Byte} {s t : State} (h : exec (.decb b) s = .next t) :
    ∃ d, ∀ u, exec (.decb b) (s.withUnread u) =
      .next (t.withUnread { u with decOut := u.decOut ++ d }) := by
  obtain ⟨hgn, rfl⟩ | ⟨hgn, rfl⟩ | ⟨hgn, hgroup⟩ := execDecb_next h
  · refine ⟨[], fun u => ?_⟩
    simp [exec, execDecb, hgn]
  · refine ⟨[], fun u => ?_⟩
    simp [exec, execDecb, hgn]
  · obtain ⟨d, hd⟩ := decodeGroup_withUnread hgroup
    refine ⟨d, fun u => ?_⟩
    rw [← hd u]
    simp [exec, execDecb, hgn]

/-- No command reads an unread field: with other values there it leaves the rest of the state the same,
writes the same `RES` if it writes one, and appends the same bytes. -/
theorem exec_withUnread {i : Instr} {s t : State} (h : exec i s = .next t) :
    ∃ a b, ∀ u, exec i (s.withUnread u) = .next (t.withUnread (u.after i t.res a b)) := by
  cases i with
  | nop | encsym | decsym | decend =>
    cases h
    refine ⟨[], [], fun u => ?_⟩
    simp only [Unread.after, List.append_nil]
    rfl
  | encb b =>
    obtain ⟨a, ha⟩ := execEncb_withUnread h
    refine ⟨a, [], fun u => ?_⟩
    simp [ha, Unread.after, writesRes]
  | encend =>
    obtain ⟨a, ha⟩ := execEncend_withUnread h
    refine ⟨a, [], fun u => ?_⟩
    simp [ha, Unread.after, writesRes]
  | decb b =>
    obtain ⟨d, hd⟩ := execDecb_withUnread h
    refine ⟨[], d, fun u => ?_⟩
    simp [hd, Unread.after, writesRes]

/-- What the command did to the unread fields of the state it ran on, beside `exec_withUnread`. -/
theorem exec_unread {i : Instr} {s t : State} (h : exec i s = .next t) :
    ∃ a b, t.unread = s.unread.after i t.res a b ∧
      ∀ u, exec i (s.withUnread u) = .next (t.withUnread (u.after i t.res a b)) := by
  obtain ⟨a, b, hu⟩ := exec_withUnread h
  have hself : t = t.withUnread (s.unread.after i t.res a b) :=
    Host.Outcome.next.inj (h.symm.trans (hu s.unread))
  exact ⟨a, b, congrArg State.unread hself, hu⟩

/-! ## `RES` (R19) -/

theorem exec_res_of_not_writesRes {i : Instr} {s t : State} (hi : writesRes i = false)
    (h : exec i s = .next t) : t.res = s.res := by
  obtain ⟨a, b, hunread, -⟩ := exec_unread h
  have hres := congrArg Unread.res hunread
  simpa [Unread.after, State.unread, hi] using hres

/-- A command's result depends on `RES` only where it leaves `RES` alone. -/
theorem exec_setRes {i : Instr} {s t : State} (h : exec i s = .next t) (v : BitVec 32) :
    exec i (s.setRes v) = .next (t.setRes (if writesRes i then t.res else v)) := by
  obtain ⟨a, b, hunread, hu⟩ := exec_unread h
  have hwith : t.setRes (if writesRes i then t.res else v) =
      t.withUnread { t.unread with res := if writesRes i then t.res else v } := rfl
  rw [hwith, hunread]
  exact hu { s.unread with res := v }

theorem execWord_of_illegal {w : CommandWord} {e : DecodeError} (h : decode w = .error e) (s : State) :
    execWord w s = .next (raiseIllegalCommand s) := by
  simp only [execWord, h]

theorem execWord_illegal_res {w : CommandWord} {e : DecodeError} {s t : State} (hw : decode w = .error e)
    (h : execWord w s = .next t) : t.res = s.res := by
  rw [execWord_of_illegal hw] at h
  cases h
  rfl

/-- ENCEND reports the length, with the three bytes of the flushed symbol when bits were pending (R125). -/
theorem execEncend_res {s t : State} (h : exec .encend s = .next t) :
    t.res = (if s.eCnt = 0#4 then s.eLen else s.eLen + 3#32).setWidth 32 := by
  obtain ⟨sym, s1, hflush, rfl⟩ := execEncend_next h
  obtain ⟨hcnt, rfl, rfl⟩ | ⟨hcnt, rfl, rfl⟩ | ⟨hcnt, rfl, rfl⟩ := splitFlush_cases hflush <;>
    simp [hcnt]

/-- Settles O27. -/
theorem resIsWrittenByFourCommandsAndReadByNone :
    Obligations.ResIsWrittenByFourCommandsAndReadByNone := by
  refine ⟨fun s t => exec_res_of_not_writesRes rfl, fun b s t => exec_res_of_not_writesRes rfl,
    fun b s t => exec_res_of_not_writesRes rfl, fun w e s t => execWord_illegal_res,
    fun x s t h => ?encsym, fun c s t h => ?decsym, fun s t => execEncend_res, fun s t h => ?decend,
    fun i s t v h => ?unread⟩
  case encsym | decsym | decend => cases h; rfl
  case unread =>
    refine ⟨_, exec_setRes h v, rfl, ?_⟩
    cases hi : writesRes i with
    | true => exact .inl rfl
    | false => exact .inr ⟨rfl, exec_res_of_not_writesRes hi h⟩

/-! ## The output streams (R26) -/

theorem exec_streams_prefix {i : Instr} {s t : State} (h : exec i s = .next t) :
    s.encOut <+: t.encOut ∧ s.decOut <+: t.decOut := by
  obtain ⟨a, b, hunread, -⟩ := exec_unread h
  exact ⟨⟨a, (congrArg Unread.encOut hunread).symm⟩, ⟨b, (congrArg Unread.decOut hunread).symm⟩⟩

/-- A reset keeps both streams as they are (R180). -/
theorem step_streams_prefix {s t : State} (h : step s = .next t) :
    s.encOut <+: t.encOut ∧ s.decOut <+: t.decOut := by
  obtain ⟨-, rfl⟩ | ⟨e, rest, -, ⟨-, rfl⟩ | ⟨w, -, rfl⟩ | ⟨w, r, -, -, rfl⟩ | ⟨w, i, -, -, hexec⟩⟩ :=
    step_cases h
  · exact ⟨List.prefix_rfl, List.prefix_rfl⟩
  · exact ⟨List.prefix_rfl, List.prefix_rfl⟩
  · exact ⟨List.prefix_rfl, List.prefix_rfl⟩
  · exact ⟨List.prefix_rfl, List.prefix_rfl⟩
  · exact exec_streams_prefix (s := s.setInput rest) hexec

/-- The bytes a command appends, and all else it leaves, are the same after any history. -/
theorem exec_appends {i : Instr} {s t : State} (h : exec i s = .next t) :
    ∃ a b, t.encOut = s.encOut ++ a ∧ t.decOut = s.decOut ++ b ∧
      ∀ e d, exec i { s with encOut := e, decOut := d } =
        .next { t with encOut := e ++ a, decOut := d ++ b } := by
  obtain ⟨a, b, hunread, hu⟩ := exec_unread h
  refine ⟨a, b, congrArg Unread.encOut hunread, congrArg Unread.decOut hunread, fun e d => ?_⟩
  have hwith : { t with encOut := e ++ a, decOut := d ++ b } =
      t.withUnread { t.unread with encOut := e ++ a, decOut := d ++ b } := rfl
  rw [hwith, hunread]
  exact hu { s.unread with encOut := e, decOut := d }

/-- Settles O28. -/
theorem streamsAreAppendOnly : Obligations.StreamsAreAppendOnly := by
  refine ⟨fun s t => step_streams_prefix, fun i s t e d h => ?_⟩
  obtain ⟨a, b, henc, hdec, hany⟩ := exec_appends h
  exact ⟨a, b, henc, hdec, hany e d⟩

end Sys2Proof.Machine

/-!
Proofs of the statements about the paths and their streams (20_memory.md): the independence of R46 and the
byte counts of R41. A path's command acts alike on every state that carries the same path, said with the
path laid into another state (`exec_withEncodePath`, `exec_withDecodePath`).
-/

namespace Sys2Proof.Machine

/-! ## A path laid into another state (R46) -/

/-- The state `u` with the encode path of `p`. -/
def State.withEncodePath (u p : State) : State :=
  { u with eAcc := p.eAcc, eCnt := p.eCnt, eLen := p.eLen, encOut := p.encOut }

/-- The state `u` with the decode path of `p`. -/
def State.withDecodePath (u p : State) : State :=
  { u with
    dGrp := p.dGrp, dGn := p.dGn, dAcc := p.dAcc, dAn := p.dAn, dErr := p.dErr, decOut := p.decOut }

theorem State.SameEncodePath.withEncodePath_eq {s s' : State} (h : s.SameEncodePath s') :
    s'.withEncodePath s = s' := by
  obtain ⟨hacc, hcnt, hlen, hout⟩ := h
  simp only [State.withEncodePath, hacc, hcnt, hlen, hout]

theorem State.SameDecodePath.withDecodePath_eq {s s' : State} (h : s.SameDecodePath s') :
    s'.withDecodePath s = s' := by
  obtain ⟨hgrp, hgn, hacc, han, herr, hout⟩ := h
  simp only [State.withDecodePath, hgrp, hgn, hacc, han, herr, hout]

section LaidPath

variable (u p : State)

@[simp] theorem State.withEncodePath_eAcc : (u.withEncodePath p).eAcc = p.eAcc := rfl
@[simp] theorem State.withEncodePath_eCnt : (u.withEncodePath p).eCnt = p.eCnt := rfl
@[simp] theorem State.withDecodePath_dGrp : (u.withDecodePath p).dGrp = p.dGrp := rfl
@[simp] theorem State.withDecodePath_dGn : (u.withDecodePath p).dGn = p.dGn := rfl
@[simp] theorem State.withDecodePath_dAcc : (u.withDecodePath p).dAcc = p.dAcc := rfl
@[simp] theorem State.withDecodePath_dAn : (u.withDecodePath p).dAn = p.dAn := rfl

@[simp] theorem State.setSplit_withEncodePath (acc : BitVec 8) (cnt : BitVec 4) :
    (u.withEncodePath p).setSplit acc cnt = u.withEncodePath (p.setSplit acc cnt) := rfl

@[simp] theorem State.setGroup_withDecodePath (grp : BitVec 16) (gn : BitVec 2) :
    (u.withDecodePath p).setGroup grp gn = u.withDecodePath (p.setGroup grp gn) := rfl

@[simp] theorem State.setJoin_withDecodePath (acc : BitVec 4) (an : BitVec 3) :
    (u.withDecodePath p).setJoin acc an = u.withDecodePath (p.setJoin acc an) := rfl

theorem State.sameEncodePath_withEncodePath : p.SameEncodePath (u.withEncodePath p) :=
  ⟨rfl, rfl, rfl, rfl⟩

theorem State.sameDecodePath_withDecodePath : p.SameDecodePath (u.withDecodePath p) :=
  ⟨rfl, rfl, rfl, rfl, rfl, rfl⟩

end LaidPath

/-! ## What a path's command does is decided by that path -/

theorem splitPush_withEncodePath {b : Byte} {s s' : State} {sym : Option Symbol}
    (h : splitPush b s = .ok (sym, s')) (u : State) :
    splitPush b (u.withEncodePath s) = .ok (sym, u.withEncodePath s') := by
  obtain ⟨hcnt, rfl, rfl⟩ | ⟨hcnt, rfl, rfl⟩ | ⟨hcnt, rfl, rfl⟩ := splitPush_cases h <;>
    simp [splitPush, hcnt]

theorem splitFlush_withEncodePath {s s' : State} {sym : Option Symbol}
    (h : splitFlush s = .ok (sym, s')) (u : State) :
    splitFlush (u.withEncodePath s) = .ok (sym, u.withEncodePath s') := by
  obtain ⟨hcnt, rfl, rfl⟩ | ⟨hcnt, rfl, rfl⟩ | ⟨hcnt, rfl, rfl⟩ := splitFlush_cases h <;>
    simp [splitFlush, hcnt]

theorem joinPush_withDecodePath {x : Symbol} {s s' : State} {bs : List Byte}
    (h : joinPush x s = .ok (bs, s')) (u : State) :
    joinPush x (u.withDecodePath s) = .ok (bs, u.withDecodePath s') := by
  obtain ⟨han, rfl, rfl⟩ | ⟨han, rfl, rfl⟩ := joinPush_cases h <;> simp [joinPush, han]

theorem emitSymbol_withEncodePath (sym : Option Symbol) (s u : State) :
    emitSymbol sym (u.withEncodePath s) = u.withEncodePath (emitSymbol sym s) := by
  rw [emitSymbol_eq, emitSymbol_eq]
  rfl

theorem decodeGroup_withDecodePath {c : Codeword} {s t : State} (h : decodeGroup c s = .next t)
    (u : State) : decodeGroup c (u.withDecodePath s) = .next (u.withDecodePath t) := by
  obtain ⟨bytes, s1, hjoin, rfl⟩ := decodeGroup_next h
  simp only [decodeGroup, joinPush_withDecodePath hjoin]
  rfl

theorem execDecb_withDecodePath {b : Byte} {s t : State} (h : exec (.decb b) s = .next t) (u : State) :
    exec (.decb b) (u.withDecodePath s) = .next (u.withDecodePath t) := by
  obtain ⟨hgn, rfl⟩ | ⟨hgn, rfl⟩ | ⟨hgn, hgroup⟩ := execDecb_next h
  · simp [exec, execDecb, hgn]
  · simp [exec, execDecb, hgn]
  · simp [exec, execDecb, hgn, decodeGroup_withDecodePath hgroup u]

/-- An encode-path command on any state that carries the path of `s`: it leaves the path of `t` there, the
same `RES` if it writes one, and all else as it was. -/
theorem exec_withEncodePath {i : Instr} {s t : State} (hi : onEncodePath i = true)
    (h : exec i s = .next t) (u : State) :
    exec i (u.withEncodePath s) =
      .next ((u.withEncodePath t).setRes (if writesRes i then t.res else u.res)) := by
  cases i with
  | nop | encsym | decsym | decb | decend => cases hi
  | encb b =>
    obtain ⟨sym, s1, hpush, rfl⟩ := execEncb_next h
    simp only [exec, execEncb, splitPush_withEncodePath hpush, emitSymbol_withEncodePath]
    rfl
  | encend =>
    obtain ⟨sym, s1, hflush, rfl⟩ := execEncend_next h
    simp only [exec, execEncend, splitFlush_withEncodePath hflush, emitSymbol_withEncodePath]
    rfl

/-- A decode-path command on any state that carries the path of `s`, likewise. -/
theorem exec_withDecodePath {i : Instr} {s t : State} (hi : onDecodePath i = true)
    (h : exec i s = .next t) (u : State) :
    exec i (u.withDecodePath s) =
      .next ((u.withDecodePath t).setRes (if writesRes i then t.res else u.res)) := by
  cases i with
  | nop | encsym | decsym | encb | encend => cases hi
  | decb b => exact execDecb_withDecodePath h u
  | decend => cases h; rfl

/-- A command of neither path writes `RES` at most, and the same value on every state. -/
theorem exec_offPaths {i : Instr} {s t : State} (henc : onEncodePath i = false)
    (hdec : onDecodePath i = false) (h : exec i s = .next t) (u : State) :
    exec i u = .next (u.setRes (if writesRes i then t.res else u.res)) := by
  cases i with
  | encb | encend => cases henc
  | decb | decend => cases hdec
  | nop | encsym | decsym => cases h; rfl

theorem exec_res_eq_ite {i : Instr} {s t : State} {v : BitVec 32} (h : exec i s = .next t)
    (hv : s.res = v) : t.res = if writesRes i then t.res else v := by
  cases hi : writesRes i with
  | true => rfl
  | false => exact (exec_res_of_not_writesRes hi h).trans hv

theorem exec_offPaths_eq {i : Instr} {s t : State} (henc : onEncodePath i = false)
    (hdec : onDecodePath i = false) (h : exec i s = .next t) : t = s.setRes t.res := by
  have hself : t = s.setRes (if writesRes i then t.res else s.res) :=
    Host.Outcome.next.inj (h.symm.trans (exec_offPaths henc hdec h s))
  rwa [← exec_res_eq_ite h rfl] at hself

theorem exec_sameEncodePath_congr {i : Instr} {s s' t : State} (hi : onEncodePath i = true)
    (hsame : s.SameEncodePath s') (h : exec i s = .next t) :
    ∃ t', exec i s' = .next t' ∧ t.SameEncodePath t' ∧ (s.res = s'.res → t.res = t'.res) := by
  have hs' := exec_withEncodePath hi h s'
  rw [hsame.withEncodePath_eq] at hs'
  exact ⟨_, hs', State.sameEncodePath_withEncodePath s' t, exec_res_eq_ite h⟩

theorem exec_sameDecodePath_congr {i : Instr} {s s' t : State} (hi : onDecodePath i = true)
    (hsame : s.SameDecodePath s') (h : exec i s = .next t) :
    ∃ t', exec i s' = .next t' ∧ t.SameDecodePath t' ∧ (s.res = s'.res → t.res = t'.res) := by
  have hs' := exec_withDecodePath hi h s'
  rw [hsame.withDecodePath_eq] at hs'
  exact ⟨_, hs', State.sameDecodePath_withDecodePath s' t, exec_res_eq_ite h⟩

/-- Settles O26: a path's command answers alike on states that carry the same path, and the commands that do
not own a path leave it alone. -/
theorem pathsAreIndependent : Obligations.PathsAreIndependent :=
  ⟨fun _ _ _ _ => exec_sameEncodePath_congr, fun _ _ _ _ => exec_sameDecodePath_congr,
    fun _ _ s' _ henc hdec h => ⟨_, exec_offPaths henc hdec h s', exec_res_eq_ite h⟩,
    fun _ _ _ => exec_sameEncodePath, fun _ _ _ => exec_sameDecodePath,
    fun _ _ _ => exec_offPaths_eq⟩

/-! ## How many bytes a command appends (R41) -/

theorem symbolBytes_length (sym : Option Symbol) :
    (symbolBytes sym).length = 0 ∨ (symbolBytes sym).length = 3 := by
  cases sym with
  | none => exact .inl rfl
  | some x => exact .inr rfl

/-- An encode-path command appends the bytes of the symbol it completes, if any. -/
theorem exec_encOut_of_onEncodePath {i : Instr} {s t : State} (hi : onEncodePath i = true)
    (h : exec i s = .next t) : ∃ sym, t.encOut = s.encOut ++ symbolBytes sym := by
  cases i with
  | nop | encsym | decsym | decb | decend => cases hi
  | encb b =>
    obtain ⟨sym, s1, hpush, rfl⟩ := execEncb_next h
    obtain ⟨acc, cnt, rfl⟩ := splitPush_eq_setSplit hpush
    exact ⟨sym, by rw [emitSymbol_eq]; rfl⟩
  | encend =>
    obtain ⟨sym, s1, hflush, rfl⟩ := execEncend_next h
    obtain ⟨acc, cnt, rfl⟩ := splitFlush_eq_setSplit hflush
    exact ⟨sym, by rw [emitSymbol_eq]; rfl⟩

/-- A whole group appends one byte or two, by the phase of the join unit. -/
theorem decodeGroup_decOut {c : Codeword} {s t : State} (h : decodeGroup c s = .next t) :
    ∃ b, t.decOut = s.decOut ++ b ∧ (b.length = 1 ∨ b.length = 2) := by
  obtain ⟨bytes, s1, hjoin, rfl⟩ := decodeGroup_next h
  obtain ⟨-, rfl, rfl⟩ | ⟨-, rfl, rfl⟩ := joinPush_cases hjoin
  · exact ⟨_, rfl, .inl rfl⟩
  · exact ⟨_, rfl, .inr rfl⟩

theorem execDecb_decOut {b : Byte} {s t : State} (h : exec (.decb b) s = .next t) :
    ∃ d, t.decOut = s.decOut ++ d ∧ (d.length = 0 ∨ d.length = 1 ∨ d.length = 2) := by
  obtain ⟨-, rfl⟩ | ⟨-, rfl⟩ | ⟨-, hgroup⟩ := execDecb_next h
  · exact ⟨[], by simp, .inl rfl⟩
  · exact ⟨[], by simp, .inl rfl⟩
  · obtain ⟨d, hd, hlen⟩ := decodeGroup_decOut hgroup
    exact ⟨d, hd, .inr hlen⟩

theorem exec_encOut_of_not_onEncodePath {i : Instr} {s t : State} (hi : onEncodePath i = false)
    (h : exec i s = .next t) : t.encOut = s.encOut := by
  obtain ⟨-, -, -, hout⟩ := exec_sameEncodePath hi h
  exact hout.symm

theorem exec_decOut_of_not_onDecodePath {i : Instr} {s t : State} (hi : onDecodePath i = false)
    (h : exec i s = .next t) : t.decOut = s.decOut := by
  obtain ⟨-, -, -, -, -, hout⟩ := exec_sameDecodePath hi h
  exact hout.symm

/-- DECEND drops the pending bits and emits nothing (R82, R127). -/
theorem execDecend_decOut {s t : State} (h : exec .decend s = .next t) : t.decOut = s.decOut := by
  cases h
  rfl

/-- Settles O29, command by command: its own stream by what the command emits, the other stream by the
path it does not own. -/
theorem commandsAppendTheseManyBytes : Obligations.CommandsAppendTheseManyBytes := by
  intro i s t h
  cases i with
  | nop | encsym | decsym =>
    have henc := exec_encOut_of_not_onEncodePath rfl h
    have hdec := exec_decOut_of_not_onDecodePath rfl h
    exact ⟨[], [], by simp [henc], by simp [hdec], rfl, rfl⟩
  | encb | encend =>
    obtain ⟨sym, henc⟩ := exec_encOut_of_onEncodePath rfl h
    have hdec := exec_decOut_of_not_onDecodePath rfl h
    exact ⟨_, [], henc, by simp [hdec], symbolBytes_length sym, rfl⟩
  | decb b =>
    have henc := exec_encOut_of_not_onEncodePath rfl h
    obtain ⟨d, hdec, hlen⟩ := execDecb_decOut h
    exact ⟨[], d, by simp [henc], hdec, rfl, hlen⟩
  | decend =>
    have henc := exec_encOut_of_not_onEncodePath rfl h
    exact ⟨[], [], by simp [henc], by simp [execDecend_decOut h], rfl, rfl⟩

end Sys2Proof.Machine

/-!
Proofs of the statements about the encoding (30_encoding.md): the round trip of the decoder and the encoder,
and with it the mask and match table of R55. One fact carries the table: the words of a command are its
`op` above every value of the operand bits its form uses (`EncodesRow`).
-/

namespace Sys2Proof

open Machine

/-! ## The operand bits that a form uses (R52) -/

theorem usedBits_le (form : OperandForm) : usedBits form ≤ 24 := by
  cases form <;> decide

/-- The check of R53, bit by bit. -/
theorem reservedBitsZero_iff {form : OperandForm} {operand : BitVec 24} :
    reservedBitsZero form operand = true ↔ ∀ i, usedBits form ≤ i → operand.getLsbD i = false := by
  rw [reservedBitsZero, beq_iff_eq]
  constructor
  · intro hzero i hi
    have hbit := congrArg (BitVec.getLsbD · (i - usedBits form)) hzero
    simpa [Nat.add_sub_cancel' hi] using hbit
  · intro hbits
    apply BitVec.eq_of_getLsbD_eq
    intro i _
    simpa using hbits (usedBits form + i) (Nat.le_add_right _ _)

/-- The mask of the reserved bits finds one set exactly when the check of R53 does. -/
theorem and_allOnes_shiftLeft_eq_zero_iff {form : OperandForm} {operand : BitVec 24} :
    operand &&& (BitVec.allOnes 24 <<< usedBits form) = 0#24 ↔
      reservedBitsZero form operand = true := by
  rw [reservedBitsZero_iff]
  constructor
  · intro hzero i hi
    by_cases hin : i < 24
    · have hbit := congrArg (BitVec.getLsbD · i) hzero
      have hlow : i - usedBits form < 24 := by omega
      simpa only [BitVec.getLsbD_and, BitVec.getLsbD_shiftLeft, BitVec.getLsbD_allOnes,
        BitVec.getLsbD_zero, hin, hlow, Nat.not_lt.2 hi, decide_true, decide_false, Bool.not_false,
        Bool.and_true] using hbit
    · exact BitVec.getLsbD_of_ge _ _ (Nat.le_of_not_lt hin)
  · intro hbits
    apply BitVec.eq_of_getLsbD_eq
    intro i _
    rw [BitVec.getLsbD_and, BitVec.getLsbD_shiftLeft, BitVec.getLsbD_zero]
    by_cases hused : i < usedBits form
    · simp only [hused, decide_true, Bool.not_true, Bool.and_false, Bool.false_and]
    · simp only [hbits i (Nat.le_of_not_lt hused), Bool.false_and]

/-- Reading the used bits of a legal operand and extending them loses nothing. -/
theorem setWidth_extractLsb'_of_reservedBitsZero {form : OperandForm} {operand : BitVec 24}
    (h : reservedBitsZero form operand = true) :
    (operand.extractLsb' 0 (usedBits form)).setWidth 24 = operand := by
  apply BitVec.eq_of_getLsbD_eq
  intro i hi
  rw [BitVec.getLsbD_setWidth, BitVec.getLsbD_extractLsb', Nat.zero_add]
  by_cases hused : i < usedBits form
  · simp only [hi, hused, decide_true, Bool.true_and]
  · simp only [reservedBitsZero_iff.1 h i (Nat.le_of_not_lt hused), Bool.and_false]

/-- Reading the used bits of a zero-extended operand gives it back. -/
theorem extractLsb'_setWidth {k : Nat} (v : BitVec k) (h : k ≤ 24) :
    (v.setWidth 24).extractLsb' 0 k = v := by
  rw [BitVec.extractLsb'_setWidth_of_le (by omega), BitVec.extractLsb'_eq_self]

/-! ## The decoder and the encoder are inverse to each other (R50 to R54) -/

theorem checkReserved_eq_ok_iff {form : OperandForm} {operand : BitVec 24} {i j : Instr} :
    checkReserved form operand i = .ok j ↔ reservedBitsZero form operand = true ∧ i = j := by
  unfold checkReserved
  split <;> simp [*]

theorem decode_encode (i : Instr) : decode (encode i) = .ok i := by
  simp only [decode, opField_encode, operandField_encode]
  cases i with
  | nop | encend | decend => rfl
  | decsym c =>
    exact checkReserved_eq_ok_iff.2 ⟨reservedBitsZero_iff.2 (BitVec.getLsbD_of_ge c), rfl⟩
  | encsym v | encb v | decb v =>
    exact checkReserved_eq_ok_iff.2 ⟨reservedBitsZero_setWidth _ v le_rfl,
      congrArg _ (extractLsb'_setWidth v (by decide))⟩

theorem fields_of_decode {w : CommandWord} {i : Instr} (h : decode w = .ok i) :
    opcode i = opField w ∧ operandBits i = operandField w := by
  unfold decode at h
  split at h
  case h_8 => cases h
  all_goals
    rename_i hop
    obtain ⟨hzero, rfl⟩ := checkReserved_eq_ok_iff.1 h
    refine ⟨BitVec.eq_of_toNat_eq hop.symm, ?_⟩
  case h_3 => rfl
  case h_2 | h_4 | h_6 => exact setWidth_extractLsb'_of_reservedBitsZero hzero
  case h_1 | h_5 | h_7 =>
    rw [← setWidth_extractLsb'_of_reservedBitsZero hzero]
    simp [usedBits, operandBits]

theorem encode_eq_of_decode {w : CommandWord} {i : Instr} (h : decode w = .ok i) : encode i = w := by
  obtain ⟨hop, hoperand⟩ := fields_of_decode h
  rw [encode, hop, hoperand, opField_append_operandField]

theorem decode_eq_ok_iff {w : CommandWord} {i : Instr} : decode w = .ok i ↔ encode i = w :=
  ⟨encode_eq_of_decode, fun h => h ▸ decode_encode i⟩

theorem encode_injective : Function.Injective encode := by
  intro i j h
  have hij : decode (encode i) = .ok j := decode_eq_ok_iff.2 h.symm
  exact Except.ok.inj ((decode_encode i).symm.trans hij)

/-- A word is illegal when it is the word of no command. -/
theorem exists_decode_eq_error_iff {w : CommandWord} :
    (∃ e, decode w = .error e) ↔ ∀ i, decode w ≠ .ok i := by
  cases decode w <;> simp

theorem natCard_bitVec (n : ℕ) : Nat.card (BitVec n) = 2 ^ n := by
  rw [Nat.card_eq_fintype_card, ← FinEnum.card_eq_fintypeCard, FinEnum.card_bitVec]

/-! ## One row of the mask and match table (R55) -/

/-- The mask of a form: the whole `op` and the reserved operand bits. -/
def rowMask (form : OperandForm) : CommandWord :=
  BitVec.allOnes 3 ++ (BitVec.allOnes 24 <<< usedBits form)

/-- The commands `c v`, for every value `v` of the form's bits, are those with the code `op`. -/
def EncodesRow (op : BitVec 3) (form : OperandForm) (c : BitVec (usedBits form) → Instr) : Prop :=
  ∀ v, encode (c v) = op ++ v.setWidth 24

theorem append_eq_iff {op : BitVec 3} {operand : BitVec 24} {w : CommandWord} :
    op ++ operand = w ↔ opField w = op ∧ operandField w = operand := by
  constructor
  · rintro rfl
    exact ⟨opField_append op operand, operandField_append op operand⟩
  · rintro ⟨rfl, rfl⟩
    exact opField_append_operandField w

theorem and_rowMask_eq_iff (op : BitVec 3) (form : OperandForm) (w : CommandWord) :
    w &&& rowMask form = op ++ 0#24 ↔ opField w = op ∧ reservedBitsZero form (operandField w) = true := by
  have hand : w &&& rowMask form =
      opField w ++ (operandField w &&& (BitVec.allOnes 24 <<< usedBits form)) := by
    conv_lhs => rw [← opField_append_operandField w, rowMask, BitVec.and_append, BitVec.and_allOnes]
  rw [eq_comm, append_eq_iff, hand, opField_append, operandField_append,
    and_allOnes_shiftLeft_eq_zero_iff]

section Row

variable {op : BitVec 3} {form : OperandForm} {c : BitVec (usedBits form) → Instr}

theorem EncodesRow.exists_decode_iff (hc : EncodesRow op form c) (w : CommandWord) :
    (∃ v, decode w = .ok (c v)) ↔ w &&& rowMask form = op ++ 0#24 := by
  simp only [decode_eq_ok_iff, hc _, and_rowMask_eq_iff, append_eq_iff]
  constructor
  · rintro ⟨v, hop, hoperand⟩
    exact ⟨hop, hoperand ▸ reservedBitsZero_setWidth form v le_rfl⟩
  · rintro ⟨hop, hzero⟩
    exact ⟨_, hop, (setWidth_extractLsb'_of_reservedBitsZero hzero).symm⟩

theorem EncodesRow.injective (hc : EncodesRow op form c) : Function.Injective c := by
  intro u v huv
  have happend : (op ++ u.setWidth 24 : CommandWord) = op ++ v.setWidth 24 := by
    rw [← hc u, huv, hc v]
  have hoperand := congrArg operandField happend
  rw [operandField_append, operandField_append] at hoperand
  rw [← extractLsb'_setWidth u (usedBits_le form), hoperand, extractLsb'_setWidth v (usedBits_le form)]

theorem EncodesRow.ncard (hc : EncodesRow op form c) :
    {w : CommandWord | ∃ v, decode w = .ok (c v)}.ncard = 2 ^ usedBits form := by
  simp only [decode_eq_ok_iff]
  exact (Set.ncard_range_of_injective (encode_injective.comp hc.injective)).trans (natCard_bitVec _)

end Row

/-! ## The seven rows -/

theorem encodesRow_of_operandBits_eq_zero {i : Instr} (h : operandBits i = 0#24) :
    EncodesRow (opcode i) .z fun _ => i := by
  intro v
  rw [encode, h, BitVec.of_length_zero (x := v)]
  rfl

theorem encodesRow_nop : EncodesRow 0#3 .z fun _ => .nop := encodesRow_of_operandBits_eq_zero rfl

theorem encodesRow_encsym : EncodesRow 1#3 .s12 .encsym := fun _ => rfl

theorem encodesRow_decsym : EncodesRow 2#3 .c24 .decsym := fun c =>
  congrArg (2#3 ++ ·) (BitVec.setWidth_eq c).symm

theorem encodesRow_encb : EncodesRow 3#3 .b8 .encb := fun _ => rfl

theorem encodesRow_encend : EncodesRow 4#3 .z fun _ => .encend := encodesRow_of_operandBits_eq_zero rfl

theorem encodesRow_decb : EncodesRow 5#3 .b8 .decb := fun _ => rfl

theorem encodesRow_decend : EncodesRow 6#3 .z fun _ => .decend := encodesRow_of_operandBits_eq_zero rfl

/-- A property of every command is one of each row. -/
theorem forall_instr_iff {p : Instr → Prop} :
    (∀ i, p i) ↔ p .nop ∧ (∀ s, p (.encsym s)) ∧ (∀ c, p (.decsym c)) ∧ (∀ b, p (.encb b)) ∧
      p .encend ∧ (∀ b, p (.decb b)) ∧ p .decend := by
  constructor
  · intro h
    exact ⟨h _, fun _ => h _, fun _ => h _, fun _ => h _, h _, fun _ => h _, h _⟩
  · rintro ⟨hnop, hencsym, hdecsym, hencb, hencend, hdecb, hdecend⟩ (_ | s | c | b | _ | b | _)
    exacts [hnop, hencsym s, hdecsym c, hencb b, hencend, hdecb b, hdecend]

section MaskAndMatch

variable (w : CommandWord)

theorem decode_eq_nop_iff : decode w = .ok .nop ↔ w &&& 0x7FFFFFF#27 = 0x0000000#27 :=
  exists_const _ |>.symm.trans (encodesRow_nop.exists_decode_iff w)

theorem exists_decode_eq_encsym_iff :
    (∃ s, decode w = .ok (.encsym s)) ↔ w &&& 0x7FFF000#27 = 0x1000000#27 :=
  encodesRow_encsym.exists_decode_iff w

theorem exists_decode_eq_decsym_iff :
    (∃ c, decode w = .ok (.decsym c)) ↔ w &&& 0x7000000#27 = 0x2000000#27 :=
  encodesRow_decsym.exists_decode_iff w

theorem exists_decode_eq_encb_iff :
    (∃ b, decode w = .ok (.encb b)) ↔ w &&& 0x7FFFF00#27 = 0x3000000#27 :=
  encodesRow_encb.exists_decode_iff w

theorem decode_eq_encend_iff : decode w = .ok .encend ↔ w &&& 0x7FFFFFF#27 = 0x4000000#27 :=
  exists_const _ |>.symm.trans (encodesRow_encend.exists_decode_iff w)

theorem exists_decode_eq_decb_iff :
    (∃ b, decode w = .ok (.decb b)) ↔ w &&& 0x7FFFF00#27 = 0x5000000#27 :=
  encodesRow_decb.exists_decode_iff w

theorem decode_eq_decend_iff : decode w = .ok .decend ↔ w &&& 0x7FFFFFF#27 = 0x6000000#27 :=
  exists_const _ |>.symm.trans (encodesRow_decend.exists_decode_iff w)

theorem exists_decode_eq_error_iff_matches_no_row :
    (∃ e, decode w = .error e) ↔
      w &&& 0x7FFFFFF#27 ≠ 0x0000000#27 ∧ w &&& 0x7FFF000#27 ≠ 0x1000000#27 ∧
      w &&& 0x7000000#27 ≠ 0x2000000#27 ∧ w &&& 0x7FFFF00#27 ≠ 0x3000000#27 ∧
      w &&& 0x7FFFFFF#27 ≠ 0x4000000#27 ∧ w &&& 0x7FFFF00#27 ≠ 0x5000000#27 ∧
      w &&& 0x7FFFFFF#27 ≠ 0x6000000#27 := by
  rw [exists_decode_eq_error_iff, forall_instr_iff]
  simp only [ne_eq, ← not_exists, decode_eq_nop_iff, exists_decode_eq_encsym_iff,
    exists_decode_eq_decsym_iff, exists_decode_eq_encb_iff, decode_eq_encend_iff,
    exists_decode_eq_decb_iff, decode_eq_decend_iff]

end MaskAndMatch

/-! ## The numbers of words (R55) -/

theorem ncard_decode_eq (i : Instr) : {w : CommandWord | decode w = .ok i}.ncard = 1 := by
  have hword : {w : CommandWord | decode w = .ok i} = {encode i} := by
    ext w
    exact decode_eq_ok_iff.trans eq_comm
  rw [hword, Set.ncard_singleton]

/-- The commands as a sum, one summand for each row. -/
def instrEquiv : Unit ⊕ Symbol ⊕ Codeword ⊕ Byte ⊕ Unit ⊕ Byte ⊕ Unit ≃ Instr := proxy_equiv% Instr

theorem natCard_instr : Nat.card Instr = 16781827 := by
  rw [← Nat.card_congr instrEquiv]
  simp only [Nat.card_sum, natCard_bitVec, Nat.card_unique, Nat.reducePow, Nat.reduceAdd]

theorem ncard_exists_decode_eq_error :
    {w : CommandWord | ∃ e, decode w = .error e}.ncard = 2 ^ 27 - 16781827 := by
  have hillegal : {w : CommandWord | ∃ e, decode w = .error e} = (Set.range encode)ᶜ := by
    ext w
    simp only [Set.mem_ofPred_eq, exists_decode_eq_error_iff, ne_eq, decode_eq_ok_iff, Set.mem_compl_iff,
      Set.mem_range, not_exists]
  rw [hillegal, Set.ncard_compl, Set.ncard_range_of_injective encode_injective, natCard_instr,
    natCard_bitVec]

/-- Settles O3, row by row. -/
theorem commandsFollowTheMaskAndMatchTable : Obligations.CommandsFollowTheMaskAndMatchTable :=
  ⟨fun w => ⟨decode_eq_nop_iff w, exists_decode_eq_encsym_iff w, exists_decode_eq_decsym_iff w,
      exists_decode_eq_encb_iff w, decode_eq_encend_iff w, exists_decode_eq_decb_iff w,
      decode_eq_decend_iff w, exists_decode_eq_error_iff_matches_no_row w⟩,
    ncard_decode_eq .nop, encodesRow_encsym.ncard, encodesRow_decsym.ncard, encodesRow_encb.ncard,
    ncard_decode_eq .encend, encodesRow_decb.ncard, ncard_decode_eq .decend,
    ncard_exists_decode_eq_error⟩

end Sys2Proof

/-!
Proofs of the statements about the block framer (40_block_framer.md). Both directions are read off the bit
stream first: each symbol of `split` and each byte of `join` is given in closed form at every position, and
the stream of the symbols is the stream of the payload (`symbolBit_split`). The closed forms then give one
equation per block of three bytes or two symbols, which the units of R78 to R82 follow.
-/

namespace Sys2Proof.Machine

/-! ## The streams, a byte and a symbol at a time (R32, R36) -/

theorem payloadBit_byte (p : List Byte) (k : Nat) {r : Nat} (hr : r < 8) :
    payloadBit p (8 * k + (7 - r)) = (p.getD k 0#8).getLsbD r := by
  have hbyte : (8 * k + (7 - r)) / 8 = k := by omega
  have hbit : 7 - (8 * k + (7 - r)) % 8 = r := by omega
  rw [payloadBit, hbyte, hbit]

theorem symbolBit_symbol (syms : List Symbol) (m : Nat) {i : Nat} (hi : i < 12) :
    symbolBit syms (12 * m + (11 - i)) = (syms.getD m 0#12).getLsbD i := by
  have hsym : (12 * m + (11 - i)) / 12 = m := by omega
  have hbit : 11 - (12 * m + (11 - i)) % 12 = i := by omega
  rw [symbolBit, hsym, hbit]

theorem payloadBit_of_le {p : List Byte} {j : Nat} (h : 8 * p.length ≤ j) : payloadBit p j = false := by
  have hbyte : p.length ≤ j / 8 := by omega
  simp [payloadBit, hbyte]

/-! ## `split` at every position (R70, R71) -/

/-- Symbol `m` of the payload's stream, zero bits past its end (R70). -/
def symbolAt (p : List Byte) (m : Nat) : Symbol := ofBits (fun i => payloadBit p (12 * m + (11 - i))) 12

theorem split_eq_map (p : List Byte) : split p = (List.range (symbolCount p.length)).map (symbolAt p) := rfl

theorem length_split (p : List Byte) : (split p).length = symbolCount p.length := by simp [split_eq_map]

/-- Every symbol that begins within the payload is there. -/
theorem getElem?_split {p : List Byte} {m : Nat} (h : 12 * m < 8 * p.length) :
    (split p)[m]? = some (symbolAt p m) := by
  have hlt : m < symbolCount p.length := by unfold symbolCount; omega
  simp [split_eq_map, hlt]

theorem symbolAt_even (p : List Byte) (q : Nat) :
    symbolAt p (2 * q) = p.getD (3 * q) 0#8 ++ (p.getD (3 * q + 1) 0#8).extractLsb' 4 4 := by
  refine BitVec.eq_of_getLsbD_eq fun i hi => ?_
  rw [symbolAt, getLsbD_ofBits, BitVec.getLsbD_append]
  by_cases h : i < 4
  · have hpos : 12 * (2 * q) + (11 - i) = 8 * (3 * q + 1) + (7 - (4 + i)) := by omega
    rw [hpos, payloadBit_byte p _ (by omega)]
    simp [h, hi]
  · have hpos : 12 * (2 * q) + (11 - i) = 8 * (3 * q) + (7 - (i - 4)) := by omega
    rw [hpos, payloadBit_byte p _ (by omega)]
    simp [h, hi]

theorem symbolAt_odd (p : List Byte) (q : Nat) :
    symbolAt p (2 * q + 1) = (p.getD (3 * q + 1) 0#8).extractLsb' 0 4 ++ p.getD (3 * q + 2) 0#8 := by
  refine BitVec.eq_of_getLsbD_eq fun i hi => ?_
  rw [symbolAt, getLsbD_ofBits, BitVec.getLsbD_append]
  by_cases h : i < 8
  · have hpos : 12 * (2 * q + 1) + (11 - i) = 8 * (3 * q + 2) + (7 - i) := by omega
    rw [hpos, payloadBit_byte p _ h]
    simp [h, hi]
  · have hpos : 12 * (2 * q + 1) + (11 - i) = 8 * (3 * q + 1) + (7 - (i - 8)) := by omega
    have hlow : i - 8 < 4 := by omega
    rw [hpos, payloadBit_byte p _ (by omega)]
    simp [h, hi, hlow]

theorem symbolAt_cons_triple (a b c : Byte) (p : List Byte) (m : Nat) :
    symbolAt (a :: b :: c :: p) (m + 2) = symbolAt p m := by
  refine BitVec.eq_of_getLsbD_eq fun i hi => ?_
  have hbyte : (12 * (m + 2) + (11 - i)) / 8 = (12 * m + (11 - i)) / 8 + 3 := by omega
  have hbit : (12 * (m + 2) + (11 - i)) % 8 = (12 * m + (11 - i)) % 8 := by omega
  simp [symbolAt, payloadBit, hbyte, hbit]

/-- Settles O42: the closed form at every position, read at the places that each clause names. -/
theorem splitInClosedForm : Obligations.SplitInClosedForm := by
  refine ⟨fun p q a b c ha hb hc => ?_, fun p q hlen => ?_, fun p q a hlen ha => ?_,
    fun p q a b hlen ha hb => ?_, fun p => ?_⟩
  · obtain ⟨hlt, -⟩ := List.getElem?_eq_some_iff.mp hc
    rw [getElem?_split (by omega), getElem?_split (by omega), symbolAt_even, symbolAt_odd]
    simp [List.getD_eq_getElem?_getD, ha, hb, hc]
  · rw [length_split, symbolCount]
    omega
  · have hnone : p[3 * q + 1]? = none := List.getElem?_eq_none (by omega)
    rw [length_split, symbolCount, getElem?_split (by omega), symbolAt_even]
    exact ⟨by omega, by simp [List.getD_eq_getElem?_getD, ha, hnone]⟩
  · have hnone : p[3 * q + 2]? = none := List.getElem?_eq_none (by omega)
    rw [length_split, symbolCount, getElem?_split (by omega), getElem?_split (by omega), symbolAt_even,
      symbolAt_odd]
    exact ⟨by omega, by simp [List.getD_eq_getElem?_getD, ha, hb, hnone]⟩
  · rw [length_split, symbolCount]
    omega

/-! ## `join` at every position (R73, R74) -/

/-- Byte `k` of the symbols' stream, zero bits past its end (R73). -/
def byteAt (syms : List Symbol) (k : Nat) : Byte := ofBits (fun r => symbolBit syms (8 * k + (7 - r))) 8

theorem join_eq_map (syms : List Symbol) :
    join syms = (List.range (12 * syms.length / 8)).map (byteAt syms) := rfl

theorem length_join (syms : List Symbol) : (join syms).length = 12 * syms.length / 8 := by
  simp [join_eq_map]

/-- Every byte that ends within the symbols is there. -/
theorem getElem?_join {syms : List Symbol} {k : Nat} (h : 8 * (k + 1) ≤ 12 * syms.length) :
    (join syms)[k]? = some (byteAt syms k) := by
  have hlt : k < 12 * syms.length / 8 := by omega
  simp [join_eq_map, hlt]

theorem byteAt_first (syms : List Symbol) (q : Nat) :
    byteAt syms (3 * q) = (syms.getD (2 * q) 0#12).extractLsb' 4 8 := by
  refine BitVec.eq_of_getLsbD_eq fun r hr => ?_
  have hpos : 8 * (3 * q) + (7 - r) = 12 * (2 * q) + (11 - (4 + r)) := by omega
  rw [byteAt, getLsbD_ofBits, hpos, symbolBit_symbol syms _ (by omega)]
  simp [hr]

theorem byteAt_middle (syms : List Symbol) (q : Nat) :
    byteAt syms (3 * q + 1) =
      (syms.getD (2 * q) 0#12).extractLsb' 0 4 ++ (syms.getD (2 * q + 1) 0#12).extractLsb' 8 4 := by
  refine BitVec.eq_of_getLsbD_eq fun r hr => ?_
  rw [byteAt, getLsbD_ofBits, BitVec.getLsbD_append]
  by_cases h : r < 4
  · have hpos : 8 * (3 * q + 1) + (7 - r) = 12 * (2 * q + 1) + (11 - (8 + r)) := by omega
    rw [hpos, symbolBit_symbol syms _ (by omega)]
    simp [h, hr]
  · have hpos : 8 * (3 * q + 1) + (7 - r) = 12 * (2 * q) + (11 - (r - 4)) := by omega
    have hlow : r - 4 < 4 := by omega
    rw [hpos, symbolBit_symbol syms _ (by omega)]
    simp [h, hr, hlow]

theorem byteAt_last (syms : List Symbol) (q : Nat) :
    byteAt syms (3 * q + 2) = (syms.getD (2 * q + 1) 0#12).extractLsb' 0 8 := by
  refine BitVec.eq_of_getLsbD_eq fun r hr => ?_
  have hpos : 8 * (3 * q + 2) + (7 - r) = 12 * (2 * q + 1) + (11 - r) := by omega
  rw [byteAt, getLsbD_ofBits, hpos, symbolBit_symbol syms _ (by omega)]
  simp [hr]

theorem byteAt_cons_pair (x y : Symbol) (syms : List Symbol) (k : Nat) :
    byteAt (x :: y :: syms) (k + 3) = byteAt syms k := by
  refine BitVec.eq_of_getLsbD_eq fun r hr => ?_
  have hsym : (8 * (k + 3) + (7 - r)) / 12 = (8 * k + (7 - r)) / 12 + 2 := by omega
  have hbit : (8 * (k + 3) + (7 - r)) % 12 = (8 * k + (7 - r)) % 12 := by omega
  simp [byteAt, symbolBit, hsym, hbit]

/-- Settles O43: the closed form at every position, read at the places that each clause names. -/
theorem joinInClosedForm : Obligations.JoinInClosedForm := by
  refine ⟨fun syms q x y hx hy => ?_, fun syms q hlen => ?_, fun syms q x hlen hx => ?_, fun syms => ?_⟩
  · obtain ⟨hlt, -⟩ := List.getElem?_eq_some_iff.mp hy
    rw [getElem?_join (by omega), getElem?_join (by omega), getElem?_join (by omega), byteAt_first,
      byteAt_middle, byteAt_last]
    simp [List.getD_eq_getElem?_getD, hx, hy]
  · rw [length_join]
    omega
  · rw [getElem?_join (by omega), length_join, byteAt_first]
    exact ⟨by omega, by simp [List.getD_eq_getElem?_getD, hx]⟩
  · rw [length_join]
    omega

/-! ## The two streams are one (R77) -/

/-- The stream of the symbols is the payload's, padding included. -/
theorem symbolBit_split (p : List Byte) (j : Nat) : symbolBit (split p) j = payloadBit p j := by
  by_cases h : 12 * (j / 12) < 8 * p.length
  · have hpos : 12 * (j / 12) + (11 - (11 - j % 12)) = j := by omega
    have hbit : 11 - j % 12 < 12 := by omega
    rw [symbolBit, List.getD_eq_getElem?_getD, getElem?_split h, Option.getD_some, symbolAt, getLsbD_ofBits,
      hpos, decide_eq_true hbit, Bool.true_and]
  · have hend : (split p).length ≤ j / 12 := by rw [length_split, symbolCount]; omega
    have hpast : 8 * p.length ≤ j := by omega
    simp [symbolBit, List.getD_eq_getElem?_getD, hend, payloadBit_of_le hpast]

theorem byteAt_split (p : List Byte) (k : Nat) : byteAt (split p) k = p.getD k 0#8 := by
  refine BitVec.eq_of_getLsbD_eq fun r hr => ?_
  rw [byteAt, getLsbD_ofBits, symbolBit_split, payloadBit_byte p k hr]
  simp [hr]

theorem join_split_eq_map (p : List Byte) :
    join (split p) = (List.range (12 * symbolCount p.length / 8)).map fun k => p.getD k 0#8 := by
  rw [join_eq_map, length_split, funext (byteAt_split p)]

theorem map_getD_range_length (p : List Byte) :
    (List.range p.length).map (fun k => p.getD k 0#8) = p := by
  refine List.ext_getElem (by simp) fun k _ hk => ?_
  simp [hk]

/-- The whole bytes of the padded stream: one more than the payload's when 8 bits of padding stand there. -/
theorem byteCount_symbolCount (n : Nat) : 12 * symbolCount n / 8 = if n % 3 = 2 then n + 1 else n := by
  unfold symbolCount
  split_ifs with h
  · omega
  · obtain h | h : n % 3 = 0 ∨ n % 3 = 1 := by omega
    · omega
    · omega

/-- Settles O44: byte `k` of the result is byte `k` of the payload, zero past its end; the number of bytes
tells the cases apart. -/
theorem joinUndoesSplit : Obligations.JoinUndoesSplit := by
  intro p
  rw [join_split_eq_map, byteCount_symbolCount]
  split_ifs with h
  · rw [List.range_succ, List.map_append, map_getD_range_length]
    simp
  · exact map_getD_range_length p

/-! ## A block at a time -/

theorem split_singleton (a : Byte) : split [a] = [a ++ 0#4] := by
  simp [split_eq_map, symbolCount, List.range_succ, symbolAt_even _ 0]

theorem split_pair (a b : Byte) :
    split [a, b] = [a ++ b.extractLsb' 4 4, b.extractLsb' 0 4 ++ 0#8] := by
  simp [split_eq_map, symbolCount, List.range_succ, symbolAt_even _ 0, symbolAt_odd _ 0]

theorem split_cons_triple (a b c : Byte) (p : List Byte) :
    split (a :: b :: c :: p) = (a ++ b.extractLsb' 4 4) :: (b.extractLsb' 0 4 ++ c) :: split p := by
  have hcount : symbolCount (a :: b :: c :: p).length = symbolCount p.length + 2 := by
    simp only [symbolCount, List.length_cons]
    omega
  have hzero := symbolAt_even (a :: b :: c :: p) 0
  have hone := symbolAt_odd (a :: b :: c :: p) 0
  rw [split_eq_map, hcount]
  simpa [split_eq_map, List.range_succ_eq_map, symbolAt_cons_triple, Function.comp_def]
    using And.intro hzero hone

theorem join_singleton (x : Symbol) : join [x] = [x.extractLsb' 4 8] := by
  simp [join_eq_map, byteAt_first _ 0]

theorem join_cons_pair (x y : Symbol) (syms : List Symbol) :
    join (x :: y :: syms) =
      x.extractLsb' 4 8 :: (x.extractLsb' 0 4 ++ y.extractLsb' 8 4) :: y.extractLsb' 0 8 :: join syms := by
  have hcount : 12 * (x :: y :: syms).length / 8 = 12 * syms.length / 8 + 3 := by
    simp only [List.length_cons]
    omega
  have hfirst := byteAt_first (x :: y :: syms) 0
  have hmiddle := byteAt_middle (x :: y :: syms) 0
  have hlast := byteAt_last (x :: y :: syms) 0
  rw [join_eq_map, hcount]
  simpa [join_eq_map, List.range_succ_eq_map, byteAt_cons_pair, Function.comp_def]
    using And.intro hfirst (And.intro hmiddle hlast)

/-! ## The split unit (R78 to R80) -/

section SplitUnit

variable {s : State}

theorem splitPush_of_eCnt_zero (b : Byte) (h : s.eCnt = 0#4) :
    splitPush b s = .ok (none, s.setSplit b 8#4) := by
  simp [splitPush, h]

theorem splitPush_setSplit_eight (b acc : Byte) :
    splitPush b (s.setSplit acc 8#4) =
      .ok (some (acc ++ b.extractLsb' 4 4), s.setSplit ((b.extractLsb' 0 4).setWidth 8) 4#4) := rfl

theorem splitPush_setSplit_four (b acc : Byte) :
    splitPush b (s.setSplit acc 4#4) = .ok (some (acc.extractLsb' 0 4 ++ b), s.setSplit 0#8 0#4) := rfl

theorem splitFlush_of_eCnt_zero (h : s.eCnt = 0#4) : splitFlush s = .ok (none, s) := by
  simp [splitFlush, h]

theorem splitFlush_setSplit_eight (acc : Byte) :
    splitFlush (s.setSplit acc 8#4) = .ok (some (acc ++ 0#4), s.setSplit 0#8 0#4) := rfl

theorem splitFlush_setSplit_four (acc : Byte) :
    splitFlush (s.setSplit acc 4#4) = .ok (some (acc.extractLsb' 0 4 ++ 0#8), s.setSplit 0#8 0#4) := rfl

/-- The low half of a byte, held in `E_ACC` (R78), is read back whole. -/
theorem extractLsb'_low_setWidth_low (b : Byte) :
    ((b.extractLsb' 0 4).setWidth 8).extractLsb' 0 4 = b.extractLsb' 0 4 := by
  refine BitVec.eq_of_getLsbD_eq fun i hi => ?_
  have hbyte : i < 8 := by omega
  simp [hi, hbyte]

theorem splitPushAll_singleton (a : Byte) (hcnt : s.eCnt = 0#4) :
    splitPushAll [a] s = .ok ([], s.setSplit a 8#4) := by
  simp [splitPushAll, splitPush_of_eCnt_zero, hcnt]

theorem splitPushAll_pair (a b : Byte) (hcnt : s.eCnt = 0#4) :
    splitPushAll [a, b] s =
      .ok ([a ++ b.extractLsb' 4 4], s.setSplit ((b.extractLsb' 0 4).setWidth 8) 4#4) := by
  simp [splitPushAll, splitPush_of_eCnt_zero, splitPush_setSplit_eight, hcnt]

/-- A whole block of three bytes gives two symbols and leaves the unit idle. -/
theorem splitPushAll_cons_triple {a b c : Byte} {p : List Byte} {syms : List Symbol} {s1 : State}
    (hcnt : s.eCnt = 0#4) (hrest : splitPushAll p (s.setSplit 0#8 0#4) = .ok (syms, s1)) :
    splitPushAll (a :: b :: c :: p) s =
      .ok ((a ++ b.extractLsb' 4 4) :: (b.extractLsb' 0 4 ++ c) :: syms, s1) := by
  simp [splitPushAll, splitPush_of_eCnt_zero, splitPush_setSplit_eight, splitPush_setSplit_four, hcnt, hrest,
    extractLsb'_low_setWidth_low]

end SplitUnit

/-- An idle unit that holds no bits follows `split` block by block; the last block decides what the flush
still gives. -/
theorem splitPushAll_then_splitFlush : ∀ (p : List Byte) {s : State}, s.eCnt = 0#4 → s.eAcc = 0#8 →
    ∃ syms s1 last s2, splitPushAll p s = .ok (syms, s1) ∧ splitFlush s1 = .ok (last, s2) ∧
      syms ++ last.toList = split p ∧ s2.eCnt = 0#4 ∧ s2.eAcc = 0#8
  | [], s, hcnt, hacc => ⟨[], s, none, s, rfl, splitFlush_of_eCnt_zero hcnt, rfl, hcnt, hacc⟩
  | [a], s, hcnt, _ =>
    ⟨_, _, _, _, splitPushAll_singleton a hcnt, splitFlush_setSplit_eight a,
      (split_singleton a).symm, rfl, rfl⟩
  | [a, b], s, hcnt, _ => by
    refine ⟨_, _, _, _, splitPushAll_pair a b hcnt, splitFlush_setSplit_four _, ?_, rfl, rfl⟩
    rw [split_pair, extractLsb'_low_setWidth_low]
    rfl
  | a :: b :: c :: p, s, hcnt, _ => by
    obtain ⟨syms, s1, last, s2, hpush, hflush, hsyms, hidle⟩ :=
      splitPushAll_then_splitFlush p (s := s.setSplit 0#8 0#4) rfl rfl
    refine ⟨_, s1, last, s2, splitPushAll_cons_triple hcnt hpush, hflush, ?_, hidle⟩
    rw [split_cons_triple, ← hsyms, List.cons_append, List.cons_append]

/-- Settles O45: by the invariant of R23 an idle unit holds no bits. -/
theorem splitUnitComputesSplit : Obligations.SplitUnitComputesSplit :=
  fun p _ ⟨_, hidle, _⟩ hcnt => splitPushAll_then_splitFlush p hcnt (hidle hcnt)

/-! ## The join unit (R81 to R83) -/

section JoinUnit

variable {s : State}

theorem joinPush_of_dAn_zero (x : Symbol) (h : s.dAn = 0#3) :
    joinPush x s = .ok ([x.extractLsb' 4 8], s.setJoin (x.extractLsb' 0 4) 4#3) := by
  simp [joinPush, h]

theorem joinPush_setJoin_four (x : Symbol) (acc : BitVec 4) :
    joinPush x (s.setJoin acc 4#3) =
      .ok ([acc ++ x.extractLsb' 8 4, x.extractLsb' 0 8], s.setJoin 0#4 0#3) := rfl

/-- A whole block of two symbols gives three bytes and leaves the unit idle. -/
theorem joinPushAll_cons_pair {x y : Symbol} {syms : List Symbol} {bs : List Byte} {s1 : State}
    (han : s.dAn = 0#3) (hrest : joinPushAll syms (s.setJoin 0#4 0#3) = .ok (bs, s1)) :
    joinPushAll (x :: y :: syms) s =
      .ok (x.extractLsb' 4 8 :: (x.extractLsb' 0 4 ++ y.extractLsb' 8 4) :: y.extractLsb' 0 8 :: bs,
        s1) := by
  simp [joinPushAll, joinPush_of_dAn_zero, joinPush_setJoin_four, han, hrest]

end JoinUnit

/-- An idle unit follows `join` block by block; an odd last symbol leaves 4 bits pending. -/
theorem joinPushAll_eq_join : ∀ (syms : List Symbol) {s : State}, s.dAn = 0#3 →
    ∃ s1, joinPushAll syms s = .ok (join syms, s1)
  | [], s, _ => ⟨s, rfl⟩
  | [x], s, han => by
    refine ⟨s.setJoin (x.extractLsb' 0 4) 4#3, ?_⟩
    simp [joinPushAll, joinPush_of_dAn_zero, han, join_singleton]
  | x :: y :: syms, s, han => by
    obtain ⟨s1, hrest⟩ := joinPushAll_eq_join syms (s := s.setJoin 0#4 0#3) rfl
    exact ⟨s1, join_cons_pair x y syms ▸ joinPushAll_cons_pair han hrest⟩

/-- Settles O46: the pushed bytes are `join` whatever is left pending, and the flush drops what is. -/
theorem joinUnitComputesJoin : Obligations.JoinUnitComputesJoin := by
  intro syms s han
  obtain ⟨s1, hpush⟩ := joinPushAll_eq_join syms han
  exact ⟨s1, hpush, rfl, rfl⟩

end Sys2Proof.Machine

/-!
Proofs of the statements about the transform (41_golay_transform.md). The code is linear, so its distance is
the least weight of a codeword, and that is read off the weights of all 4096 (R94). Distance 8 and one check
of the listing, that each entry is light and has the syndrome of its address or the one next to it
(`synRom_fits`), decide what the table holds at every address (R96, R97, R102).
-/

namespace Sys2Proof.Machine

/-! ## Linearity (R91, R92, R95) -/

@[simp] theorem par12_xor (a b : Symbol) : par12 (a ^^^ b) = par12 a ^^^ par12 b :=
  xorRows_xor a b 0 parityRows

@[simp] theorem par12_zero : par12 0#12 = 0#12 := by decide

@[simp] theorem syn_xor (a b : Codeword) : syn (a ^^^ b) = syn a ^^^ syn b := by
  simp only [syn, dataBits_xor, parityBits_xor, par12_xor]
  ac_rfl

@[simp] theorem syn_enc24 (x : Symbol) : syn (enc24 x) = 0#12 := by simp [syn, enc24]

theorem enc24_xor (a b : Symbol) : enc24 (a ^^^ b) = enc24 a ^^^ enc24 b := by
  rw [enc24, par12_xor, enc24, enc24, BitVec.xor_append]

theorem dataBits_enc24 (x : Symbol) : dataBits (enc24 x) = x := dataBits_append x _

theorem enc24_injective : Function.Injective enc24 := Function.LeftInverse.injective dataBits_enc24

/-- A word of syndrome 0 is the codeword of its data bits. -/
theorem enc24_dataBits {c : Codeword} (h : syn c = 0#12) : enc24 (dataBits c) = c := by
  rw [enc24, BitVec.xor_eq_zero_iff.1 h, dataBits_append_parityBits]

theorem syn_eq_zero_iff {c : Codeword} : syn c = 0#12 ↔ ∃ x, c = enc24 x :=
  ⟨fun h => ⟨_, (enc24_dataBits h).symm⟩, fun ⟨x, h⟩ => h ▸ syn_enc24 x⟩

@[simp] theorem syn_one : syn 1#24 = 1#12 := by decide

/-! ## Bits and weights -/

theorem popcountBelow_eq_card {w : Nat} (v : BitVec w) (n : Nat) :
    popcountBelow v n = ((Finset.range n).filter (v.getLsbD ·)).card := by
  induction n with
  | zero => rfl
  | succ n ih =>
    rw [popcountBelow, ih, Finset.range_add_one, Finset.filter_insert]
    cases h : v.getLsbD n <;> simp [Nat.add_comm]

/-- The positions of the 1 bits. -/
def support {w : Nat} (v : BitVec w) : Finset Nat := (Finset.range w).filter (v.getLsbD ·)

theorem popcount_eq_card {w : Nat} (v : BitVec w) : popcount v = (support v).card :=
  popcountBelow_eq_card v w

theorem ofBits_support {w : Nat} (v : BitVec w) : ofBits (· ∈ support v) w = v := by
  refine BitVec.eq_of_getLsbD_eq fun i hi => ?_
  rw [getLsbD_ofBits]
  simp [support, hi]

theorem support_injective {w : Nat} : Function.Injective (support (w := w)) :=
  Function.LeftInverse.injective (g := fun s : Finset Nat => ofBits (· ∈ s) w) ofBits_support

theorem support_ofBits {w : Nat} {s : Finset Nat} (h : s ⊆ Finset.range w) :
    support (ofBits (· ∈ s) w) = s := by
  ext i
  have hlt : i ∈ s → i < w := fun hi => Finset.mem_range.1 (h hi)
  simpa [support] using hlt

theorem popcount_eq_zero_iff {w : Nat} {v : BitVec w} : popcount v = 0 ↔ v = 0#w := by
  have hzero : support 0#w = ∅ := by simp [support]
  rw [popcount_eq_card, Finset.card_eq_zero, ← hzero, support_injective.eq_iff]

theorem ncard_popcount_eq (w k : Nat) : {v : BitVec w | popcount v = k}.ncard = w.choose k := by
  have himage : support '' {v : BitVec w | popcount v = k} = ↑(Finset.powersetCard k (Finset.range w)) := by
    ext s
    simp only [Set.mem_image, Set.mem_ofPred_eq, Finset.mem_coe, Finset.mem_powersetCard, popcount_eq_card]
    constructor
    · rintro ⟨v, hv, rfl⟩
      exact ⟨Finset.filter_subset _ _, hv⟩
    · rintro ⟨hs, hcard⟩
      exact ⟨ofBits (· ∈ s) w, by rw [support_ofBits hs]; exact hcard, support_ofBits hs⟩
  rw [← Set.ncard_image_of_injective _ support_injective, himage, Set.ncard_coe_finset,
    Finset.card_powersetCard, Finset.card_range]

theorem ncard_popcount_le (w k : Nat) :
    {v : BitVec w | popcount v ≤ k}.ncard = ∑ j ∈ Finset.range (k + 1), w.choose j := by
  induction k with
  | zero => simp [← ncard_popcount_eq]
  | succ k ih =>
    have hunion : {v : BitVec w | popcount v ≤ k + 1} =
        {v | popcount v ≤ k} ∪ {v | popcount v = k + 1} := by
      ext v
      exact Nat.le_succ_iff
    have hdisjoint : Disjoint {v : BitVec w | popcount v ≤ k} {v | popcount v = k + 1} :=
      Set.disjoint_left.2 fun v hle heq => absurd heq (Nat.lt_succ_of_le hle).ne
    rw [hunion, Set.ncard_union_eq hdisjoint, ih, ncard_popcount_eq, Finset.sum_range_succ _ (k + 1)]

/-- Exclusive-ors of single bits are all the words. -/
theorem xor_induction {w : Nat} {P : BitVec w → Prop} (zero : P 0#w)
    (xor : ∀ a b, P a → P b → P (a ^^^ b)) (bit : ∀ i, i < w → P (1#w <<< i))
    (v : BitVec w) : P v := by
  have hbits : ∀ s : Finset Nat, s ⊆ Finset.range w → P (ofBits (· ∈ s) w) := by
    intro s
    induction s using Finset.induction_on with
    | empty =>
      intro _
      have hempty : ofBits (· ∈ (∅ : Finset Nat)) w = 0#w := by
        refine BitVec.eq_of_getLsbD_eq fun j _ => ?_
        simp
      rwa [hempty]
    | @insert i s his ih =>
      intro hs
      rw [Finset.insert_subset_iff, Finset.mem_range] at hs
      have hinsert : ofBits (· ∈ insert i s) w = ofBits (· ∈ s) w ^^^ 1#w <<< i := by
        refine BitVec.eq_of_getLsbD_eq fun j hj => ?_
        rw [BitVec.getLsbD_xor, getLsbD_ofBits, getLsbD_ofBits, BitVec.getLsbD_shiftLeft, BitVec.getLsbD_one]
        rcases Nat.lt_trichotomy j i with h | rfl | h
        · simp [hj, h, h.ne]
        · simp [hj, his, hs.1.pos]
        · simp [hj, h.ne', h.not_gt, Nat.sub_ne_zero_of_lt h]
      rw [hinsert]
      exact xor _ _ (ih hs.2) (bit i hs.1)
  have hv := hbits (support v) (Finset.filter_subset _ _)
  rwa [ofBits_support] at hv

/-- `popcount(v) mod 2` is linear (R91). -/
theorem popcount_xor_mod_two {w : Nat} (a b : BitVec w) :
    popcount (a ^^^ b) % 2 = (popcount a + popcount b) % 2 := by
  have := popcount_xor a b
  omega

theorem popcount_one : popcount 1#24 = 1 := by decide

/-- A flip of bit 0 when it is clear. -/
theorem popcount_xor_one {c : Codeword} (h : c.getLsbD 0 = false) :
    popcount (c ^^^ 1#24) = popcount c + 1 := by
  have hand : c &&& 1#24 = 0#24 := by
    rw [BitVec.and_one_eq_setWidth_ofBool_getLsbD, h]
    rfl
  have hxor := popcount_xor c 1#24
  rw [hand, popcount_zero, popcount_one] at hxor
  omega

/-! ## The transform on numbers

The checks over all 4096 symbols (R94, R151) are evaluated on numbers. The two recursive functions are written
with the recursors and the operations of `Nat` themselves, which the kernel evaluates in the fewest steps. -/

/-- How many of the bits `0 .. k - 1` of `n` are 1. -/
def bitSum (n k : Nat) : Nat := k.rec 0 fun i sum => ((n.shiftRight i).mod 2).add sum

/-- The exclusive-or of the rows that the bits of `n` select, the first row by bit 0. -/
def selectXor (n : Nat) (rows : List Nat) : Nat :=
  rows.rec (fun _ => 0) (fun row _ ih n => ((n.mod 2).mul row).xor (ih (n.div 2))) n

theorem toNat_getLsbD {w : Nat} (v : BitVec w) (i : Nat) : (v.getLsbD i).toNat = v.toNat >>> i % 2 := by
  rw [BitVec.getLsbD, Nat.toNat_testBit, Nat.shiftRight_eq_div_pow]

theorem popcount_eq_bitSum {w : Nat} (v : BitVec w) : popcount v = bitSum v.toNat w := by
  have hbelow : ∀ k, popcountBelow v k = bitSum v.toNat k := by
    intro k
    induction k with
    | zero => rfl
    | succ k ih =>
      rw [popcountBelow, ih, toNat_getLsbD]
      rfl
  exact hbelow w

theorem toNat_xorRows (s : Symbol) (i : Nat) (rows : List Symbol) :
    (xorRows s i rows).toNat = selectXor (s.toNat >>> i) (rows.map BitVec.toNat) := by
  induction rows generalizing i with
  | nil => rfl
  | cons row rows ih =>
    have hrow : (if s.getLsbD i then row else 0#12).toNat = s.toNat >>> i % 2 * row.toNat := by
      rw [← toNat_getLsbD]
      cases s.getLsbD i <;> simp
    rw [xorRows, BitVec.toNat_xor, ih, hrow]
    rfl

/-- The rows of R90 as numbers. -/
def parityRowNumbers : List Nat :=
  [0x5C7, 0xB8D, 0x2DE, 0x5BC, 0xB78, 0x337, 0x66D, 0xCD9, 0xC76, 0xD2B, 0xF92, 0xAE3]

theorem toNat_par12 (s : Symbol) : (par12 s).toNat = selectXor s.toNat parityRowNumbers :=
  toNat_xorRows s 0 parityRows

/-- The weight of the codeword of the symbol `n`. -/
def codewordWeight (n : Nat) : Nat := bitSum (n <<< 12 ||| selectXor n parityRowNumbers) 24

theorem popcount_enc24 (s : Symbol) : popcount (enc24 s) = codewordWeight s.toNat := by
  rw [popcount_eq_bitSum, enc24, BitVec.toNat_append, toNat_par12, codewordWeight]

/-- `syn` of the word `n`. -/
def synNumber (n : Nat) : Nat := selectXor (n >>> 12) parityRowNumbers ^^^ n % 2 ^ 12

theorem toNat_syn (c : Codeword) : (syn c).toNat = synNumber c.toNat := by
  have hdata : (dataBits c).toNat = c.toNat >>> 12 := by
    rw [dataBits, BitVec.extractLsb'_toNat, Nat.mod_eq_of_lt (by omega)]
  rw [syn, BitVec.toNat_xor, toNat_par12, hdata, parityBits, BitVec.extractLsb'_toNat]
  rfl

/-- The word of the listing at address `z`. -/
def synRomNumber (z : Nat) : Nat := synRomRow z >>> (24 * (15 - z % 16)) % 2 ^ 24

theorem toNat_synRom (z : Symbol) : (synRom z).toNat = synRomNumber z.toNat := by
  rw [synRom, BitVec.toNat_ofNat, synRomNumber]

/-! ## The weights of the codewords and the distance of the code (R94) -/

/-- R94's exhaustive computation of the weight distribution. -/
theorem codewordWeight_distribution :
    ((List.range 4096).all fun n => codewordWeight n ∈ [0, 8, 12, 16, 24]) = true ∧
    (List.range 4096).countP (codewordWeight · == 0) = 1 ∧
    (List.range 4096).countP (codewordWeight · == 8) = 759 ∧
    (List.range 4096).countP (codewordWeight · == 12) = 2576 ∧
    (List.range 4096).countP (codewordWeight · == 16) = 759 ∧
    (List.range 4096).countP (codewordWeight · == 24) = 1 := by decide +kernel

theorem popcount_enc24_mem (s : Symbol) : popcount (enc24 s) ∈ [0, 8, 12, 16, 24] := by
  obtain ⟨hall, -⟩ := codewordWeight_distribution
  rw [popcount_enc24]
  exact of_decide_eq_true (List.all_eq_true.1 hall s.toNat (List.mem_range.2 s.isLt))

theorem countP_popcount_enc24 (k : Nat) :
    allSymbols.countP (fun s => popcount (enc24 s) == k) =
      (List.range 4096).countP (codewordWeight · == k) := by
  rw [allSymbols, List.countP_map]
  refine List.countP_congr fun n hn => ?_
  rw [Function.comp_apply, popcount_enc24, BitVec.toNat_ofNat, Nat.mod_eq_of_lt (List.mem_range.1 hn)]

theorem popcount_of_syn_eq_zero {c : Codeword} (h : syn c = 0#12) :
    popcount c = 0 ∨ popcount c = 8 ∨ popcount c = 12 ∨ popcount c = 16 ∨ popcount c = 24 := by
  simpa [enc24_dataBits h] using popcount_enc24_mem (dataBits c)

theorem popcount_mod_two_of_syn_eq_zero {c : Codeword} (h : syn c = 0#12) : popcount c % 2 = 0 := by
  have hweight := popcount_of_syn_eq_zero h
  omega

theorem popcount_mod_two_of_syn_eq_one {c : Codeword} (h : syn c = 1#12) : popcount c % 2 = 1 := by
  have heven := popcount_mod_two_of_syn_eq_zero (c := c ^^^ 1#24) (by simp [h])
  rw [popcount_xor_mod_two, popcount_one] at heven
  omega

/-- The least weight of a nonzero codeword is 8. -/
theorem eq_zero_of_syn_eq_zero {c : Codeword} (hsyn : syn c = 0#12) (h : popcount c < 8) : c = 0#24 := by
  have hweight := popcount_of_syn_eq_zero hsyn
  exact popcount_eq_zero_iff.1 (by omega)

/-- Two patterns of one syndrome sum to a codeword, so light ones are equal. -/
theorem eq_of_syn_eq {e e' : Codeword} (hsyn : syn e = syn e')
    (h : popcount e + popcount e' < 8) : e = e' := by
  apply BitVec.xor_eq_zero_iff.1
  apply eq_zero_of_syn_eq_zero
  · simp [hsyn]
  · exact (popcount_xor_le e e').trans_lt h

/-! ## What the table holds (R96, R97) -/

/-- The check of one entry of the listing: it is light, and its syndrome is its address, or the address with
bit 0 flipped when the entry is one of R97. -/
def entryFits (z : Nat) : Bool :=
  bitSum (synRomNumber z) 24 ≤ 3 &&
    (synNumber (synRomNumber z) == z ||
      (bitSum (synRomNumber z) 24 == 3 && synRomNumber z % 2 == 0 && synNumber (synRomNumber z) == z ^^^ 1))

theorem all_entryFits : (List.range 4096).all entryFits = true := by decide +kernel

theorem synRom_fits (z : Symbol) :
    popcount (synRom z) ≤ 3 ∧
      (syn (synRom z) = z ∨
        popcount (synRom z) = 3 ∧ (synRom z).getLsbD 0 = false ∧ syn (synRom z) = z ^^^ 1#12) := by
  have hfits := List.all_eq_true.1 all_entryFits z.toNat (List.mem_range.2 z.isLt)
  simpa [entryFits, ← toNat_synRom, ← popcount_eq_bitSum, ← toNat_syn, BitVec.toNat_eq,
    BitVec.getElem_eq_testBit_toNat, and_assoc] using hfits

/-- R96: the covered entries. -/
theorem synRom_syn {e : Codeword} (he : popcount e ≤ 3) : synRom (syn e) = e := by
  obtain ⟨hle, hsyn | ⟨hthree, hbit, hsyn⟩⟩ := synRom_fits (syn e)
  · exact eq_of_syn_eq hsyn (by omega)
  · have hfour := popcount_xor_one hbit
    have heq : synRom (syn e) ^^^ 1#24 = e := eq_of_syn_eq (by simp [hsyn]) (by omega)
    rw [heq] at hfour
    omega

theorem dec24With_enc24_xor {table : BitVec 12 → Codeword} {e : Codeword} (h : table (syn e) = e)
    (x : Symbol) : dec24With table (enc24 x ^^^ e) = (x, popcount e) := by
  simp [dec24With, h, dataBits_enc24]

/-! ## The bits that the column masks select (R91) -/

theorem xor_and_distrib {w : Nat} (a b m : BitVec w) : (a ^^^ b) &&& m = (a &&& m) ^^^ (b &&& m) := by
  refine BitVec.eq_of_getLsbD_eq fun i _ => ?_
  simp only [BitVec.getLsbD_and, BitVec.getLsbD_xor, Bool.and_xor_distrib_right]

/-- Both sides are linear in the symbol, and they agree on the single bits. -/
theorem toNat_getLsbD_par12 {j : Nat} {m : Symbol} (h : columnMasks[j]? = some m) (s : Symbol) :
    ((par12 s).getLsbD j).toNat = popcount (s &&& m) % 2 := by
  have hbits : ∀ q ∈ columnMasks.zipIdx, ∀ i ∈ List.range 12,
      ((par12 (1#12 <<< i)).getLsbD q.2).toNat = popcount (1#12 <<< i &&& q.1) % 2 := by decide +kernel
  induction s using xor_induction with
  | zero => simp
  | xor a b ha hb =>
    rw [par12_xor, BitVec.getLsbD_xor, xor_and_distrib, popcount_xor_mod_two, Nat.add_mod, ← ha, ← hb]
    cases (par12 a).getLsbD j <;> cases (par12 b).getLsbD j <;> rfl
  | bit i hi => exact hbits (m, j) (List.mk_mem_zipIdx_iff_getElem?.2 h) i (List.mem_range.2 hi)

/-- Settles O32: `par12` is linear, and R90's rows and R91's masks are each other's transpose. -/
theorem parityIsLinearAndFollowsTheColumnMasks : Obligations.ParityIsLinearAndFollowsTheColumnMasks := by
  have hrows : ∀ p ∈ parityRows.zipIdx, par12 (1#12 <<< p.2) = p.1 := by decide
  have htranspose : ∀ p ∈ parityRows.zipIdx, ∀ q ∈ columnMasks.zipIdx,
      q.1.getLsbD p.2 = p.1.getLsbD q.2 := by decide
  refine ⟨par12_zero, fun i row hrow => ?_, par12_xor, fun s j m hm => ?_, fun i j row m hrow hm => ?_⟩
  · exact hrows (row, i) (List.mk_mem_zipIdx_iff_getElem?.2 hrow)
  · rw [← toNat_getLsbD_par12 hm, Bool.toNat_eq_one]
  · exact htranspose (row, i) (List.mk_mem_zipIdx_iff_getElem?.2 hrow) (m, j)
      (List.mk_mem_zipIdx_iff_getElem?.2 hm)

/-- Settles O33: distance and parity are read off the weights of all codewords. -/
theorem codeHasDistanceEight : Obligations.CodeHasDistanceEight := by
  obtain ⟨-, hzero, height, htwelve, hsixteen, htwentyfour⟩ := codewordWeight_distribution
  have hselfDual : ∀ p ∈ parityRows.zipIdx, ∀ p' ∈ parityRows.zipIdx,
      popcount (p.1 &&& p'.1) % 2 = if p.2 = p'.2 then 1 else 0 := by decide
  refine ⟨enc24_xor, ?_, fun a b hab => ?_, fun s => popcount_mod_two_of_syn_eq_zero (syn_enc24 s),
    fun i j r q hr hq => ?_, @enc24_injective, fun c => syn_eq_zero_iff.symm⟩
  · simp only [countP_popcount_enc24]
    exact ⟨hzero, height, htwelve, hsixteen, htwentyfour, popcount_enc24_mem⟩
  · by_contra hlt
    have hsum : enc24 a ^^^ enc24 b = 0#24 := eq_zero_of_syn_eq_zero (by simp) (not_le.1 hlt)
    exact hab (enc24_injective (BitVec.xor_eq_zero_iff.1 hsum))
  · exact hselfDual (r, i) (List.mk_mem_zipIdx_iff_getElem?.2 hr) (q, j)
      (List.mk_mem_zipIdx_iff_getElem?.2 hq)

/-- Settles O34: the syndrome is linear, and 0 on codewords. -/
theorem syndromeDependsOnTheErrorAlone : Obligations.SyndromeDependsOnTheErrorAlone := by
  have hrows : ∀ p ∈ parityRows.zipIdx, syn (1#24 <<< (12 + p.2)) = p.1 := by decide
  refine ⟨fun _ => rfl, syn_xor, fun v e hv => ?_, by decide, fun i row hrow => ?_⟩
  · rw [syn_xor, hv, BitVec.zero_xor]
  · exact hrows (row, i) (List.mk_mem_zipIdx_iff_getElem?.2 hrow)

/-- Settles O35: the table's entry and the pattern are light and have one syndrome. -/
theorem tableCoversEveryPatternOfWeightThree : Obligations.TableCoversEveryPatternOfWeightThree :=
  ⟨fun _ => synRom_syn, fun _ _ he he' hsyn => eq_of_syn_eq hsyn (by omega),
    ncard_popcount_le 24 3, by decide⟩

/-- Settles O38: the table holds no correction at address 0. -/
theorem zeroSyndromeReadsTheDataBits : Obligations.ZeroSyndromeReadsTheDataBits := by
  refine ⟨fun c hc => ?_, fun c => syn_eq_zero_iff, by decide, by decide, by decide⟩
  have hrom : synRom (syn c) = 0#24 := by rw [hc]; decide
  exact ⟨hrom, by simp [dec24, dec24With, hrom, dataBits]⟩

/-- Settles O39: the syndrome of the received word is that of the pattern. -/
theorem upToThreeErrorsAreCorrected : Obligations.UpToThreeErrorsAreCorrected :=
  ⟨fun x _ he => dec24With_enc24_xor (synRom_syn he) x, fun _ x _ _ h => dec24With_enc24_xor h x,
    by decide⟩

/-! ## The perfect code of the bits 23:1 (R102) -/

theorem eq_or_eq_xor_one {a b : BitVec 12} (h : a.extractLsb' 1 11 = b.extractLsb' 1 11) :
    a = b ∨ a = b ^^^ 1#12 := by
  have hsplit : ∀ v : BitVec 12, v.extractLsb' 1 11 ++ v.extractLsb' 0 1 = v := fun v =>
    BitVec.extractLsb'_append_extractLsb'
  have hlow : ∀ p q : BitVec 1, p = q ∨ p = q ^^^ 1#1 := by decide
  obtain hpq | hpq := hlow (a.extractLsb' 0 1) (b.extractLsb' 0 1)
  · exact .inl (by rw [← hsplit a, h, hpq, hsplit])
  · have hone : b.extractLsb' 1 11 ++ (b.extractLsb' 0 1 ^^^ 1#1) =
        (b.extractLsb' 1 11 ++ b.extractLsb' 0 1) ^^^ (0#11 ++ 1#1) := by
      rw [BitVec.xor_append, BitVec.xor_zero]
    exact .inr (by rw [← hsplit a, h, hpq, hone, hsplit]; rfl)

theorem extractLsb'_xor_one (z : BitVec 12) : (z ^^^ 1#12).extractLsb' 1 11 = z.extractLsb' 1 11 := by
  rw [BitVec.extractLsb'_xor]
  exact BitVec.xor_zero

theorem extractLsb'_syn_synRom (z : BitVec 12) :
    (syn (synRom z)).extractLsb' 1 11 = z.extractLsb' 1 11 := by
  obtain ⟨-, hsyn | ⟨-, -, hsyn⟩⟩ := synRom_fits z
  · rw [hsyn]
  · rw [hsyn, extractLsb'_xor_one]

/-- Clearing bit 0 of a light pattern changes its syndrome in bit 0 only. -/
theorem exists_clear_of_popcount_le {e : Codeword} {k : Nat} (he : popcount e ≤ k) :
    ∃ e' : Codeword, popcount e' ≤ k ∧ e'.getLsbD 0 = false ∧
      (syn e').extractLsb' 1 11 = (syn e).extractLsb' 1 11 := by
  cases hbit : e.getLsbD 0 with
  | false => exact ⟨e, he, hbit, rfl⟩
  | true =>
    have hclear : (e ^^^ 1#24).getLsbD 0 = false := by rw [BitVec.getLsbD_xor, hbit]; rfl
    have hcount : popcount e = popcount (e ^^^ 1#24) + 1 := by simpa using popcount_xor_one hclear
    exact ⟨e ^^^ 1#24, by omega, hclear, by rw [syn_xor, syn_one, extractLsb'_xor_one]⟩

/-- No two light patterns with bit 0 clear have syndromes that agree above bit 0. -/
theorem eq_of_extractLsb'_syn_eq {e e' : Codeword} (he : popcount e ≤ 3) (he' : popcount e' ≤ 3)
    (hbit : e.getLsbD 0 = false) (hbit' : e'.getLsbD 0 = false)
    (h : (syn e).extractLsb' 1 11 = (syn e').extractLsb' 1 11) : e = e' := by
  obtain hsyn | hsyn := eq_or_eq_xor_one h
  · exact eq_of_syn_eq hsyn (by omega)
  · have hcount := popcount_xor_one hbit'
    have heq : e = e' ^^^ 1#24 := eq_of_syn_eq (by rw [hsyn, syn_xor, syn_one]) (by omega)
    rw [heq, BitVec.getLsbD_xor, hbit'] at hbit
    cases hbit

theorem xor_one_eq_or_one {e : Codeword} (h : e.getLsbD 0 = false) : e ^^^ 1#24 = e ||| 1#24 := by
  refine BitVec.eq_of_getLsbD_eq fun i hi => ?_
  cases i with
  | zero => rw [BitVec.getLsbD_xor, BitVec.getLsbD_or, h]; rfl
  | succ i => simp

/-- Flipping bit 0 of a pattern `e` with bit 0 clear: the table adds the bit when there is room for it. -/
theorem synRom_syn_xor_one {e : Codeword} (he : popcount e ≤ 3) (hbit : e.getLsbD 0 = false) :
    synRom (syn e ^^^ 1#12) = if popcount e ≤ 2 then e ||| 1#24 else e := by
  have hcount := popcount_xor_one hbit
  have hsyn : syn (e ^^^ 1#24) = syn e ^^^ 1#12 := by rw [syn_xor, syn_one]
  split_ifs with hroom
  · rw [← hsyn, synRom_syn (by omega), xor_one_eq_or_one hbit]
  · obtain ⟨hle, hrom | ⟨-, -, hrom⟩⟩ := synRom_fits (syn e ^^^ 1#12)
    · have heq : synRom (syn e ^^^ 1#12) = e ^^^ 1#24 := eq_of_syn_eq (hrom.trans hsyn.symm) (by omega)
      rw [heq] at hle
      omega
    · exact eq_of_syn_eq (by simpa using hrom) (by omega)

/-- Settles O41: the table's own entry, bit 0 cleared, is the pattern of each 11-bit syndrome. -/
theorem tableAgreesWithThePerfectCodeDecoder : Obligations.TableAgreesWithThePerfectCodeDecoder := by
  refine ⟨fun z11 => ?_, fun c e he hbit hhigh => ?_⟩
  · obtain ⟨e, he, hbit, hhigh⟩ := exists_clear_of_popcount_le (synRom_fits (z11 ++ 0#1)).1
    have hz11 : (syn e).extractLsb' 1 11 = z11 := by
      rw [hhigh, extractLsb'_syn_synRom, BitVec.extractLsb'_append_eq_left]
    exact ⟨e, ⟨he, hbit, hz11⟩, fun e' he' hbit' hhigh' =>
      eq_of_extractLsb'_syn_eq he' he hbit' hbit (hhigh'.trans hz11.symm)⟩
  · obtain hsyn | hsyn := eq_or_eq_xor_one hhigh.symm
    · have heven : popcount (c ^^^ e) % 2 = 0 := popcount_mod_two_of_syn_eq_zero (by simp [hsyn])
      rw [hsyn, synRom_syn he, if_neg (by omega)]
    · have hodd : popcount (c ^^^ e) % 2 = 1 :=
        popcount_mod_two_of_syn_eq_one (by rw [syn_xor, hsyn, BitVec.xor_comm]; simp)
      simp only [hsyn, synRom_syn_xor_one he hbit, hodd, true_and]

/-! ## The commands (R104, R105) -/

/-- The reserved bits, read as a field. -/
theorem reservedBitsZero_iff_extractLsb' {form : OperandForm} {operand : BitVec 24} :
    reservedBitsZero form operand = true ↔
      operand.extractLsb' (usedBits form) (24 - usedBits form) = 0#(24 - usedBits form) := by
  have hlt : operand.toNat >>> usedBits form < 2 ^ (24 - usedBits form) := by
    rw [Nat.shiftRight_eq_div_pow, Nat.div_lt_iff_lt_mul (by positivity), ← pow_add,
      Nat.sub_add_cancel (usedBits_le form)]
    exact operand.isLt
  rw [reservedBitsZero, beq_iff_eq, BitVec.toNat_eq, BitVec.toNat_eq, BitVec.toNat_ushiftRight,
    BitVec.extractLsb'_toNat, Nat.mod_eq_of_lt hlt]
  rfl

theorem execWord_of_legal {w : CommandWord} {i : Instr} (h : decode w = .ok i) (s : State) :
    execWord w s = exec i s := by
  simp only [execWord, h]

theorem decode_encsymWord (operand : BitVec 24) :
    decode (1#3 ++ operand) = checkReserved .s12 operand (.encsym (symbolOperand operand)) := by
  simp [decode]

/-- Settles O17: the check of the reserved bits is the one on `operand[23:12]`. -/
theorem encsymWritesTheCodeword : Obligations.EncsymWritesTheCodeword := by
  have hreserved : ∀ operand : BitVec 24,
      reservedBitsZero .s12 operand = true ↔ operand.extractLsb' 12 12 = 0#12 := fun _ =>
    reservedBitsZero_iff_extractLsb'
  refine ⟨fun _ _ => rfl, fun operand s h => ?_, fun operand s h => ?_, by decide, by decide, by decide⟩
  · have hdecode : decode (1#3 ++ operand) = .ok (.encsym (operand.extractLsb' 0 12)) := by
      rw [decode_encsymWord, checkReserved_eq_ok_iff]
      exact ⟨(hreserved operand).2 h, rfl⟩
    exact execWord_of_legal hdecode s
  · have hdecode : decode (1#3 ++ operand) = .error .reservedOperandBits := by
      rw [decode_encsymWord, checkReserved, if_neg (mt (hreserved operand).1 h)]
    exact execWord_of_illegal hdecode s

/-- Settles O19: every DECSYM word is the encoding of its command; an entry that is not covered weighs 3. -/
theorem decsymWritesCountAndSymbol : Obligations.DecsymWritesCountAndSymbol := by
  refine ⟨fun _ _ => rfl, fun c => execWord_of_legal (decode_encode (.decsym c)), fun c => ?_, by decide,
    by decide, by decide, by decide, fun s => ?_⟩
  · obtain ⟨hle, hsyn | ⟨hthree, -, -⟩⟩ := synRom_fits (syn c)
    · exact .inl ⟨_, hle, hsyn⟩
    · exact .inr hthree
  · have hresult : decsymResult (dec24 0x2BC43C#24) = 0x00001ABC#32 := by decide
    rw [exec, execDecsym, hresult]
    rfl

end Sys2Proof.Machine

/-!
Proofs of the statements about the codec commands (42_codec_commands.md). ENCB, ENCEND and DECB are the
framer's units with the transform between (R124 to R126), so what a path computes is what the units compute
(`execAll_encb`, `execAll_decb`); words of the other path, of neither, or of no command do not disturb it
(`PathFrame.stepN_interleaved`). The round trip is then the framer's, with the transform's correction of
each group.
-/

namespace Sys2Proof.Machine

/-! ## The words of one operation code -/

/-- A set reserved bit makes the word illegal (R53, R163). -/
theorem execWord_of_reservedBits_ne_zero {op : BitVec 3} {form : OperandForm} {operand : BitVec 24}
    (hform : formOfOp op = some form)
    (h : operand.extractLsb' (usedBits form) (24 - usedBits form) ≠ 0#(24 - usedBits form)) (s : State) :
    execWord (op ++ operand) s = .next { s with ill := true } := by
  have hreserved : ∀ i, checkReserved form operand i = .error .reservedOperandBits := fun i => by
    rw [checkReserved, if_neg (mt reservedBitsZero_iff_extractLsb'.1 h)]
  have hdecode : decode (op ++ operand) = .error .reservedOperandBits := by
    unfold formOfOp at hform
    split at hform
    case h_8 => cases hform
    all_goals
      rename_i hop
      cases hform
      simp only [decode, opField_append, operandField_append, hop, hreserved]
  exact execWord_of_illegal hdecode s

/-- With no reserved bit set, the word is the command of the operand's used bits (R52). -/
theorem execWord_of_reservedBits_eq_zero {op : BitVec 3} {form : OperandForm}
    {c : BitVec (usedBits form) → Instr} (hc : EncodesRow op form c) {operand : BitVec 24}
    (h : operand.extractLsb' (usedBits form) (24 - usedBits form) = 0#(24 - usedBits form)) (s : State) :
    execWord (op ++ operand) s = exec (c (operand.extractLsb' 0 (usedBits form))) s := by
  have hencode : encode (c (operand.extractLsb' 0 (usedBits form))) = op ++ operand := by
    rw [hc, setWidth_extractLsb'_of_reservedBitsZero (reservedBitsZero_iff_extractLsb'.2 h)]
  exact execWord_of_legal (decode_eq_ok_iff.2 hencode) s

/-- The commands without an operand (form Z, R52). -/
theorem execWord_of_operand_ne_zero {op : BitVec 3} {operand : BitVec 24} (hform : formOfOp op = some .z)
    (h : operand ≠ 0#24) (s : State) : execWord (op ++ operand) s = .next { s with ill := true } := by
  have hreserved : operand.extractLsb' 0 24 ≠ 0#24 := by rwa [BitVec.extractLsb'_eq_self]
  exact execWord_of_reservedBits_ne_zero hform hreserved s

/-! ## The framer's units, phase by phase (R78, R79, R81) -/

section Units

variable {s : State}

theorem splitPush_of_eCnt_eight (b : Byte) (h : s.eCnt = 8#4) :
    splitPush b s =
      .ok (some (s.eAcc ++ b.extractLsb' 4 4), s.setSplit ((b.extractLsb' 0 4).setWidth 8) 4#4) := by
  simp [splitPush, h]

theorem splitPush_of_eCnt_four (b : Byte) (h : s.eCnt = 4#4) :
    splitPush b s = .ok (some (s.eAcc.extractLsb' 0 4 ++ b), s.setSplit 0#8 0#4) := by
  simp [splitPush, h]

theorem splitFlush_of_eCnt_eight (h : s.eCnt = 8#4) :
    splitFlush s = .ok (some (s.eAcc ++ 0#4), s.setSplit 0#8 0#4) := by
  simp [splitFlush, h]

theorem splitFlush_of_eCnt_four (h : s.eCnt = 4#4) :
    splitFlush s = .ok (some (s.eAcc.extractLsb' 0 4 ++ 0#8), s.setSplit 0#8 0#4) := by
  simp [splitFlush, h]

theorem joinPush_of_dAn_four (x : Symbol) (h : s.dAn = 4#3) :
    joinPush x s = .ok ([s.dAcc ++ x.extractLsb' 8 4, x.extractLsb' 0 8], s.setJoin 0#4 0#3) := by
  simp [joinPush, h]

end Units

/-! ## The commands, given what the unit answers (R124 to R126) -/

theorem execEncb_of_splitPush {b : Byte} {s s1 : State} {sym : Option Symbol}
    (h : splitPush b s = .ok (sym, s1)) : exec (.encb b) s = .next (emitSymbol sym s1) := by
  simp only [exec, execEncb, h]

theorem execEncend_of_splitFlush {s s1 : State} {sym : Option Symbol}
    (h : splitFlush s = .ok (sym, s1)) : exec .encend s = .next (reportLength (emitSymbol sym s1)) := by
  simp only [exec, execEncend, h]

/-- The state after a whole group: its word's errors counted, the group empty, the completed bytes out. -/
def State.acceptGroup (s : State) (c : Codeword) (bytes : List Byte) : State :=
  ((s.setDErr (s.dErr + BitVec.ofNat 32 (dec24 c).2)).setGroup 0#16 0#2).emitDec bytes

@[simp] theorem State.acceptGroup_dErr (s : State) (c : Codeword) (bytes : List Byte) :
    (s.acceptGroup c bytes).dErr = s.dErr + BitVec.ofNat 32 (dec24 c).2 := by simp [State.acceptGroup]

@[simp] theorem State.acceptGroup_decOut (s : State) (c : Codeword) (bytes : List Byte) :
    (s.acceptGroup c bytes).decOut = s.decOut ++ bytes := by simp [State.acceptGroup]

section Decb

variable {s : State} (b : Byte)

theorem execDecb_of_dGn_zero (h : s.dGn = 0#2) : exec (.decb b) s = .next (s.setGroup (b ++ 0#8) 1#2) := by
  simp [exec, execDecb, h]

theorem execDecb_of_dGn_one (h : s.dGn = 1#2) :
    exec (.decb b) s = .next (s.setGroup (s.dGrp.extractLsb' 8 8 ++ b) 2#2) := by
  simp [exec, execDecb, h]

theorem execDecb_of_joinPush {s1 : State} {bytes : List Byte} (h : s.dGn = 2#2)
    (hjoin : joinPush (dec24 (s.dGrp ++ b)).1 s = .ok (bytes, s1)) :
    exec (.decb b) s = .next (s1.acceptGroup (s.dGrp ++ b) bytes) := by
  simp [exec, execDecb, h, decodeGroup, hjoin, State.acceptGroup]

end Decb

theorem setWidth_low_eq_append (b : Byte) : (b.extractLsb' 0 4).setWidth 8 = 0#4 ++ b.extractLsb' 0 4 := by
  rw [BitVec.setWidth_eq_append (by decide)]
  rfl

/-- Settles O16. -/
theorem nopChangesNothing : Obligations.NopChangesNothing :=
  ⟨by decide, fun _ => rfl, fun _ s h => execWord_of_operand_ne_zero rfl h s⟩

/-- Settles O21: each phase is the split unit's. -/
theorem encbFollowsThePhaseTable : Obligations.EncbFollowsThePhaseTable := by
  refine ⟨fun b s h => ?_, fun b s h => ?_, fun b s h => ?_,
    fun _ s h => execWord_of_reservedBits_eq_zero encodesRow_encb h s,
    fun _ s h => execWord_of_reservedBits_ne_zero (form := .b8) rfl h s⟩
  · exact execEncb_of_splitPush (splitPush_of_eCnt_zero b h)
  · rw [execEncb_of_splitPush (splitPush_of_eCnt_eight b h), setWidth_low_eq_append]
    rfl
  · exact execEncb_of_splitPush (splitPush_of_eCnt_four b h)

/-- Settles O22: each phase is the split unit's flush; idle, the unit holds no bits by R23. -/
theorem encendFlushesAndReportsTheLength : Obligations.EncendFlushesAndReportsTheLength := by
  refine ⟨fun s ⟨_, hidle, _⟩ h => ?_, fun s h => ?_, fun s h => ?_, by decide,
    fun _ s h => execWord_of_operand_ne_zero rfl h s⟩
  · rw [execEncend_of_splitFlush (splitFlush_of_eCnt_zero h), ← hidle h, ← h]
    rfl
  · exact execEncend_of_splitFlush (splitFlush_of_eCnt_eight h)
  · exact execEncend_of_splitFlush (splitFlush_of_eCnt_four h)

/-- Settles O23: the third byte of a group follows the join unit's phases. -/
theorem decbFollowsThePhaseTable : Obligations.DecbFollowsThePhaseTable := by
  refine ⟨fun b s h => execDecb_of_dGn_zero b h, fun b s h => execDecb_of_dGn_one b h,
    fun b s h han => ?_, fun b s h han => ?_,
    fun _ s h => execWord_of_reservedBits_eq_zero encodesRow_decb h s,
    fun _ s h => execWord_of_reservedBits_ne_zero (form := .b8) rfl h s⟩
  · rw [execDecb_of_joinPush b h (joinPush_of_dAn_zero _ han)]
    rfl
  · rw [execDecb_of_joinPush b h (joinPush_of_dAn_four _ han)]
    rfl

/-- Settles O24. -/
theorem decendReportsTheCountAndDropsTheRest : Obligations.DecendReportsTheCountAndDropsTheRest :=
  ⟨fun _ => rfl, by decide, fun _ s h => execWord_of_operand_ne_zero rfl h s⟩

/-! ## A group at a time (R34, R35) -/

/-- Induction over a byte sequence by its groups of three, with what is left of the last one. -/
theorem group_induction {P : List Byte → Prop} (rest : ∀ e : List Byte, e.length < 3 → P e)
    (group : ∀ a b c e, P e → P (a :: b :: c :: e)) : ∀ e, P e
  | [] => rest [] (by decide)
  | [a] => rest [a] (by simp)
  | [a, b] => rest [a, b] (by simp)
  | a :: b :: c :: e => group a b c e (group_induction rest group e)

theorem length_codewordBytes (c : Codeword) : (codewordBytes c).length = 3 := rfl

theorem groupWords_of_length_lt {e : List Byte} (h : e.length < 3) : groupWords e = [] := by
  match e, h with
  | [], _ | [_], _ | [_, _], _ => rfl

theorem groupWords_cons_triple (a b c : Byte) (e : List Byte) :
    groupWords (a :: b :: c :: e) = (a ++ b ++ c) :: groupWords e := rfl

theorem length_groupWords (e : List Byte) : (groupWords e).length = e.length / 3 := by
  induction e using group_induction with
  | rest e h => rw [groupWords_of_length_lt h, Nat.div_eq_of_lt h]; rfl
  | group a b c e ih =>
    rw [groupWords_cons_triple, List.length_cons, ih]
    simp only [List.length_cons]
    omega

/-- The bytes of a codeword are its group (R34). -/
theorem append_codewordBytes (c : Codeword) :
    c.extractLsb' 16 8 ++ c.extractLsb' 8 8 ++ c.extractLsb' 0 8 = c := by
  rw [BitVec.extractLsb'_append_extractLsb'_eq_extractLsb' (by rfl),
    BitVec.extractLsb'_append_extractLsb'_eq_extractLsb' (by rfl)]
  exact BitVec.extractLsb'_eq_self

theorem groupWords_flatMap_codewordBytes (cs : List Codeword) :
    groupWords (cs.flatMap codewordBytes) = cs := by
  induction cs with
  | nil => rfl
  | cons c cs ih =>
    rw [List.flatMap_cons, codewordBytes]
    simp only [List.cons_append, List.nil_append, groupWords_cons_triple, append_codewordBytes, ih]

theorem xor_group (a b c a' b' c' : Byte) :
    (a ^^^ a') ++ (b ^^^ b') ++ (c ^^^ c') = (a ++ b ++ c : Codeword) ^^^ (a' ++ b' ++ c') := by
  rw [BitVec.xor_append, BitVec.xor_append]

/-- Damage to the bytes is damage to the groups. -/
theorem groupWords_zipWith_xor : ∀ {e d : List Byte}, d.length = e.length →
    groupWords (List.zipWith (· ^^^ ·) e d) = List.zipWith (· ^^^ ·) (groupWords e) (groupWords d) := by
  intro e
  induction e using group_induction with
  | rest e h =>
    intro d hlen
    rw [groupWords_of_length_lt h, groupWords_of_length_lt (by simp; omega)]
    rfl
  | group a b c e ih =>
    intro d hlen
    match d with
    | a' :: b' :: c' :: d =>
      have htail : d.length = e.length := by simpa using hlen
      simp only [List.zipWith_cons_cons, groupWords_cons_triple, xor_group, ih htail]

/-! ## Lengths (R122) -/

theorem encodePayload_snd (p : List Byte) : (encodePayload p).2 = 3 * ((8 * p.length + 11) / 12) := by
  rw [encodePayload, length_split, symbolCount]

theorem length_encodePayload (p : List Byte) : (encodePayload p).1.length = (encodePayload p).2 := by
  simp [encodePayload, List.length_flatMap, length_codewordBytes, Nat.mul_comm]

theorem length_decodeStream (e : List Byte) : (decodeStream e).1.length = e.length / 3 * 12 / 8 := by
  rw [decodeStream, length_join, List.length_map, length_groupWords, Nat.mul_comm]

/-- Settles O47: every form of the two laws is arithmetic on the first. -/
theorem lengthLaws : Obligations.LengthLaws := by
  refine ⟨fun p => ?_, fun e => ?_⟩
  · rw [length_encodePayload, encodePayload_snd]
    refine ⟨rfl, rfl, fun h => ?_, fun h => ?_, fun h => ?_⟩ <;> omega
  · rw [length_decodeStream]
    refine ⟨rfl, fun h => ?_, fun h => ?_⟩ <;> omega

/-! ## The round trip (R131, R132) -/

theorem dec24_enc24_xor {e : Codeword} (he : popcount e ≤ 3) (x : Symbol) :
    dec24 (enc24 x ^^^ e) = (x, popcount e) := dec24With_enc24_xor (synRom_syn he) x

theorem dec24_snd_le (c : Codeword) : (dec24 c).2 ≤ 3 := (synRom_fits (syn c)).1

theorem popcount_append {v w : Nat} (a : BitVec v) (b : BitVec w) :
    popcount (a ++ b) = popcount a + popcount b := by
  have hbelow : ∀ n, popcountBelow (a ++ b) (n + w) = popcountBelow a n + popcount b := by
    intro n
    induction n with
    | zero =>
      rw [Nat.zero_add, popcountBelow, Nat.zero_add]
      exact popcountBelow_congr fun i hi => by simp [BitVec.getLsbD_append, hi]
    | succ n ih =>
      rw [Nat.succ_add, popcountBelow, ih, popcountBelow, Nat.add_assoc]
      simp [BitVec.getLsbD_append]
  exact hbelow v

/-- A group has the 1 bits of its three bytes. -/
theorem sum_popcount_groupWords {d : List Byte} (h : d.length % 3 = 0) :
    ((groupWords d).map popcount).sum = (d.map popcount).sum := by
  induction d using group_induction with
  | rest d hlt =>
    obtain rfl : d = [] := List.length_eq_zero_iff.1 (by omega)
    rfl
  | group a b c d ih =>
    have hd : d.length % 3 = 0 := by simpa [Nat.add_assoc] using h
    rw [groupWords_cons_triple, List.map_cons, List.sum_cons, ih hd, popcount_append, popcount_append]
    simp only [List.map_cons, List.sum_cons]
    omega

/-- Light patterns on codewords are corrected and counted group by group (R100). -/
theorem map_dec24_zipWith_xor : ∀ {xs : List Symbol} {gs : List Codeword}, gs.length = xs.length →
    (∀ g ∈ gs, popcount g ≤ 3) →
    (List.zipWith (· ^^^ ·) (xs.map enc24) gs).map dec24 = xs.zip (gs.map popcount)
  | [], [], _, _ => rfl
  | x :: xs, g :: gs, hlen, hlight => by
    obtain ⟨hg, hgs⟩ := List.forall_mem_cons.1 hlight
    simp only [List.map_cons, List.zipWith_cons_cons, List.zip_cons_cons, dec24_enc24_xor hg,
      map_dec24_zipWith_xor (Nat.succ.inj hlen) hgs]

theorem groupWords_encodePayload (p : List Byte) :
    groupWords (encodePayload p).1 = (split p).map enc24 := by
  rw [encodePayload, ← List.flatMap_map]
  exact groupWords_flatMap_codewordBytes _

theorem dec24_enc24 (x : Symbol) : dec24 (enc24 x) = (x, 0) := by
  simpa using dec24_enc24_xor (e := 0#24) (by simp) x

theorem decodeStream_encodePayload (p : List Byte) :
    decodeStream (encodePayload p).1 = (join (split p), 0) := by
  simp [decodeStream, groupWords_encodePayload, Function.comp_def, dec24_enc24]

/-- Settles O50: the transform gives each symbol back, and `join` undoes `split`. -/
theorem roundTripIsTheIdentity : Obligations.RoundTripIsTheIdentity := fun p => by
  rw [decodeStream_encodePayload, joinUndoesSplit p]

theorem decodeStream_of_map_dec24 {e : List Byte} {xs : List Symbol} {ks : List Nat}
    (hlen : ks.length = xs.length) (h : (groupWords e).map dec24 = xs.zip ks) :
    decodeStream e = (join xs, ks.sum) := by
  have hfst : (groupWords e).map (fun c => (dec24 c).1) = xs := by
    rw [← List.map_fst_zip hlen.ge, ← h, List.map_map, Function.comp_def]
  have hsnd : (groupWords e).map (fun c => (dec24 c).2) = ks := by
    rw [← List.map_snd_zip hlen.le, ← h, List.map_map, Function.comp_def]
  rw [decodeStream, hfst, hsnd]

/-- Settles O51: the damaged stream is one damaged codeword a group, each within reach of the correction. -/
theorem roundTripThroughANoisyChannel : Obligations.RoundTripThroughANoisyChannel := by
  refine ⟨fun p damage hlen hlight => ?_, dec24_snd_le⟩
  have hbytes : damage.length = 3 * (split p).length := hlen.trans (length_encodePayload p)
  have hgroups : (groupWords damage).length = (split p).length := by rw [length_groupWords]; omega
  have hdecode := map_dec24_zipWith_xor hgroups hlight
  rw [← groupWords_encodePayload, ← groupWords_zipWith_xor hlen] at hdecode
  rw [decodeStream_encodePayload, decodeStream_of_map_dec24 (by simpa using hgroups) hdecode,
    sum_popcount_groupWords (by omega)]

/-! ## Commands in a row, and words in a row -/

/-- The commands in order, stopping at the first that has no next state. -/
def execAll : List Instr → State → Host.Outcome State Fault Refusal
  | [], s => .next s
  | i :: is, s =>
    match exec i s with
    | .next t => execAll is t
    | .fault r => .fault r
    | .refused r => .refused r

theorem execAll_cons_of_next {i : Instr} {s t : State} (h : exec i s = .next t) (is : List Instr) :
    execAll (i :: is) s = execAll is t := by
  simp only [execAll, h]

theorem execAll_cons_next {i : Instr} {is : List Instr} {s u : State}
    (h : execAll (i :: is) s = .next u) : ∃ t, exec i s = .next t ∧ execAll is t = .next u := by
  rw [execAll] at h
  split at h
  case h_1 t ht => exact ⟨t, ht, h⟩
  all_goals cases h

theorem step_command {w : CommandWord} {rest : List HostEvent} {s : State}
    (h : s.input = .command w :: rest) : step s = execWord w (s.setInput rest) := by
  simp only [step, takeEvent, h, present]

theorem stepN_succ_of_next {n : Nat} {s t u : State} (h : step s = .next t) (hn : stepN n t = .next u) :
    stepN (n + 1) s = .next u := by
  simp only [stepN, h, hn]

theorem stepN_succ_of_stepN {n : Nat} {s t u : State} (hn : stepN n s = .next t) (h : step t = .next u) :
    stepN (n + 1) s = .next u := by
  induction n generalizing s with
  | zero =>
    cases hn
    exact stepN_succ_of_next h rfl
  | succ n ih =>
    rw [stepN] at hn
    split at hn
    case h_1 v hv => exact stepN_succ_of_next hv (ih hn)
    all_goals cases hn

/-! ## No command stops in the invariant of R23 -/

theorem splitPush_of_encodeInv {s : State} (hs : s.EncodeInv) (b : Byte) :
    ∃ sym s1, splitPush b s = .ok (sym, s1) := by
  obtain ⟨h | h | h, -, -⟩ := hs
  · exact ⟨_, _, splitPush_of_eCnt_zero b h⟩
  · exact ⟨_, _, splitPush_of_eCnt_four b h⟩
  · exact ⟨_, _, splitPush_of_eCnt_eight b h⟩

theorem splitFlush_of_encodeInv {s : State} (hs : s.EncodeInv) :
    ∃ sym s1, splitFlush s = .ok (sym, s1) := by
  obtain ⟨h | h | h, -, -⟩ := hs
  · exact ⟨_, _, splitFlush_of_eCnt_zero h⟩
  · exact ⟨_, _, splitFlush_of_eCnt_four h⟩
  · exact ⟨_, _, splitFlush_of_eCnt_eight h⟩

theorem joinPush_of_decodeInv {s : State} (hs : s.DecodeInv) (x : Symbol) :
    ∃ bytes s1, joinPush x s = .ok (bytes, s1) := by
  obtain ⟨-, -, -, h | h, -⟩ := hs
  · exact ⟨_, _, joinPush_of_dAn_zero x h⟩
  · exact ⟨_, _, joinPush_of_dAn_four x h⟩

theorem execDecb_of_decodeInv {s : State} (hs : s.DecodeInv) (b : Byte) :
    ∃ t, exec (.decb b) s = .next t := by
  obtain ⟨bytes, s1, hjoin⟩ := joinPush_of_decodeInv hs (dec24 (s.dGrp ++ b)).1
  obtain ⟨h | h | h, -⟩ := hs
  · exact ⟨_, execDecb_of_dGn_zero b h⟩
  · exact ⟨_, execDecb_of_dGn_one b h⟩
  · exact ⟨_, execDecb_of_joinPush b h hjoin⟩

theorem exec_of_inv {s : State} (hs : s.Inv) (i : Instr) : ∃ t, exec i s = .next t := by
  obtain ⟨henc, hdec⟩ := hs
  cases i with
  | nop | encsym | decsym | decend => exact ⟨_, rfl⟩
  | encb b =>
    obtain ⟨sym, s1, hpush⟩ := splitPush_of_encodeInv henc b
    exact ⟨_, execEncb_of_splitPush hpush⟩
  | encend =>
    obtain ⟨sym, s1, hflush⟩ := splitFlush_of_encodeInv henc
    exact ⟨_, execEncend_of_splitFlush hflush⟩
  | decb b => exact execDecb_of_decodeInv hdec b

theorem exec_input {i : Instr} {s t : State} (h : exec i s = .next t) : t.input = s.input := by
  obtain ⟨a, b, hunread, -⟩ := exec_unread h
  exact congrArg Unread.input hunread

/-! ## Interleaved words (R46) -/

/-- The commands of `onPath` own the part of the state on which `Same` compares two states: what they do to
that part is decided by it, and nothing else touches it. -/
structure PathFrame (onPath : Instr → Bool) (Same : State → State → Prop) : Prop where
  trans : ∀ {r s t}, Same r s → Same s t → Same r t
  same_setInput : ∀ s es, Same s (s.setInput es)
  same_illegal : ∀ s, Same s (raiseIllegalCommand s)
  exec_offPath : ∀ {i s t}, onPath i = false → exec i s = .next t → Same s t
  exec_onPath : ∀ {i s s' t}, onPath i = true → Same s s' → exec i s = .next t →
    ∃ t', exec i s' = .next t' ∧ Same t t'

theorem encodePath_frame : PathFrame onEncodePath State.SameEncodePath where
  trans := fun ⟨hacc, hcnt, hlen, hout⟩ ⟨hacc', hcnt', hlen', hout'⟩ =>
    ⟨hacc.trans hacc', hcnt.trans hcnt', hlen.trans hlen', hout.trans hout'⟩
  same_setInput _ _ := ⟨rfl, rfl, rfl, rfl⟩
  same_illegal _ := ⟨rfl, rfl, rfl, rfl⟩
  exec_offPath := exec_sameEncodePath
  exec_onPath hi hsame h := by
    obtain ⟨t', ht', hsame', -⟩ := exec_sameEncodePath_congr hi hsame h
    exact ⟨t', ht', hsame'⟩

theorem decodePath_frame : PathFrame onDecodePath State.SameDecodePath where
  trans := fun ⟨hgrp, hgn, hacc, han, herr, hout⟩ ⟨hgrp', hgn', hacc', han', herr', hout'⟩ =>
    ⟨hgrp.trans hgrp', hgn.trans hgn', hacc.trans hacc', han.trans han', herr.trans herr',
      hout.trans hout'⟩
  same_setInput _ _ := ⟨rfl, rfl, rfl, rfl, rfl, rfl⟩
  same_illegal _ := ⟨rfl, rfl, rfl, rfl, rfl, rfl⟩
  exec_offPath := exec_sameDecodePath
  exec_onPath hi hsame h := by
    obtain ⟨t', ht', hsame', -⟩ := exec_sameDecodePath_congr hi hsame h
    exact ⟨t', ht', hsame'⟩

section PathCommands

variable {onPath : Instr → Bool} {w : CommandWord} {i : Instr} (ws : List CommandWord)

theorem pathCommands_cons_illegal {e : DecodeError} (hw : decode w = .error e) :
    pathCommands onPath (w :: ws) = pathCommands onPath ws := by
  simp [pathCommands, hw, Except.toOption]

theorem pathCommands_cons_offPath (hw : decode w = .ok i) (hi : onPath i = false) :
    pathCommands onPath (w :: ws) = pathCommands onPath ws := by
  simp [pathCommands, hw, hi, Except.toOption]

theorem pathCommands_cons_onPath (hw : decode w = .ok i) (hi : onPath i = true) :
    pathCommands onPath (w :: ws) = i :: pathCommands onPath ws := by
  simp [pathCommands, hw, hi, Except.toOption]

end PathCommands

/-- One word does to the path what the path's commands among `[w]` do, whatever the rest of the state. -/
theorem PathFrame.execWord_next {onPath : Instr → Bool} {Same : State → State → Prop}
    (hframe : PathFrame onPath Same) {w : CommandWord} {ws : List CommandWord} {r r' s : State}
    (hs : s.Inv) (hsame : Same r s) (hrun : execAll (pathCommands onPath (w :: ws)) r = .next r') :
    ∃ r1 t, execWord w s = .next t ∧ t.Inv ∧ t.input = s.input ∧ Same r1 t ∧
      execAll (pathCommands onPath ws) r1 = .next r' := by
  cases hw : decode w with
  | error e =>
    rw [pathCommands_cons_illegal ws hw] at hrun
    exact ⟨r, _, execWord_of_illegal hw s, hs, rfl, hframe.trans hsame (hframe.same_illegal s), hrun⟩
  | ok i =>
    rw [execWord_of_legal hw]
    cases hi : onPath i with
    | false =>
      rw [pathCommands_cons_offPath ws hw hi] at hrun
      obtain ⟨t, ht⟩ := exec_of_inv hs i
      exact ⟨r, t, ht, exec_inv hs ht, exec_input ht, hframe.trans hsame (hframe.exec_offPath hi ht),
        hrun⟩
    | true =>
      rw [pathCommands_cons_onPath ws hw hi] at hrun
      obtain ⟨r1, hr1, hrest⟩ := execAll_cons_next hrun
      obtain ⟨t, ht, hsame1⟩ := hframe.exec_onPath hi hsame hr1
      exact ⟨r1, t, ht, exec_inv hs ht, exec_input ht, hsame1, hrest⟩

/-- Any words do to the path what the path's commands among them do. -/
theorem PathFrame.stepN_interleaved {onPath : Instr → Bool} {Same : State → State → Prop}
    (hframe : PathFrame onPath Same) {ws : List CommandWord} {rest : List HostEvent} {r r' s : State}
    (hs : s.Inv) (hinput : s.input = ws.map .command ++ rest) (hsame : Same r s)
    (hrun : execAll (pathCommands onPath ws) r = .next r') :
    ∃ t, stepN ws.length s = .next t ∧ t.Inv ∧ t.input = rest ∧ Same r' t := by
  induction ws generalizing r s with
  | nil =>
    cases hrun
    exact ⟨s, rfl, hs, hinput, hsame⟩
  | cons w ws ih =>
    have hsame0 := hframe.trans hsame (hframe.same_setInput s (ws.map .command ++ rest))
    obtain ⟨r1, s1, hword, hs1, hinput1, hsame1, hrun1⟩ :=
      hframe.execWord_next (s := s.setInput (ws.map .command ++ rest)) hs hsame0 hrun
    obtain ⟨t, hsteps, ht⟩ := ih hs1 hinput1 hsame1 hrun1
    exact ⟨t, stepN_succ_of_next ((step_command hinput).trans hword) hsteps, ht⟩

/-! ## The encode path computes `encode` (R129) -/

/-- The state after the codewords of the symbols have been emitted (R124, R125). -/
def emitSymbols (syms : List Symbol) (s : State) : State :=
  (s.emitEnc (syms.flatMap fun x => codewordBytes (enc24 x))).setELen
    (s.eLen + BitVec.ofNat 32 (3 * syms.length))

theorem emitSymbols_nil (s : State) : emitSymbols [] s = s := by
  simp [emitSymbols, State.emitEnc, State.setELen]

theorem emitSymbols_append (syms more : List Symbol) (s : State) :
    emitSymbols (syms ++ more) s = emitSymbols more (emitSymbols syms s) := by
  simp [emitSymbols, State.emitEnc, State.setELen, Nat.mul_add, BitVec.ofNat_add, BitVec.add_assoc]

theorem emitSymbols_toList (sym : Option Symbol) (s : State) :
    emitSymbols sym.toList s = emitSymbol sym s := by
  cases sym with
  | none => exact emitSymbols_nil s
  | some x => rfl

theorem emitSymbol_setSplit (sym : Option Symbol) (s : State) (acc : BitVec 8) (cnt : BitVec 4) :
    emitSymbol sym (s.setSplit acc cnt) = (emitSymbol sym s).setSplit acc cnt := by
  cases sym <;> rfl

/-- The split unit reads and writes `E_ACC` and `E_CNT` alone. -/
theorem splitPush_setSplit {b : Byte} {r r1 : State} {sym : Option Symbol}
    (h : splitPush b r = .ok (sym, r1)) (s : State) :
    splitPush b (s.setSplit r.eAcc r.eCnt) = .ok (sym, s.setSplit r1.eAcc r1.eCnt) := by
  obtain ⟨hcnt, rfl, rfl⟩ | ⟨hcnt, rfl, rfl⟩ | ⟨hcnt, rfl, rfl⟩ := splitPush_cases h <;>
    simp [splitPush, hcnt] <;> rfl

theorem splitFlush_setSplit {r r1 : State} {sym : Option Symbol}
    (h : splitFlush r = .ok (sym, r1)) (s : State) :
    splitFlush (s.setSplit r.eAcc r.eCnt) = .ok (sym, s.setSplit r1.eAcc r1.eCnt) := by
  obtain ⟨hcnt, rfl, rfl⟩ | ⟨hcnt, rfl, rfl⟩ | ⟨hcnt, rfl, rfl⟩ := splitFlush_cases h <;>
    simp [splitFlush, hcnt] <;> rfl

theorem splitPushAll_cons_ok {b : Byte} {p : List Byte} {r r2 : State} {syms : List Symbol}
    (h : splitPushAll (b :: p) r = .ok (syms, r2)) :
    ∃ sym r1 more, splitPush b r = .ok (sym, r1) ∧ splitPushAll p r1 = .ok (more, r2) ∧
      syms = sym.toList ++ more := by
  rw [splitPushAll] at h
  split at h
  case h_1 => cases h
  case h_2 sym r1 hpush =>
    split at h
    case h_1 => cases h
    case h_2 more r2' hrest =>
      cases h
      exact ⟨sym, r1, more, hpush, hrest, rfl⟩

/-- ENCB byte by byte is the split unit, with each symbol encoded as it is completed. -/
theorem execAll_encb {p : List Byte} {r r1 : State} {syms : List Symbol}
    (h : splitPushAll p r = .ok (syms, r1)) (s : State) :
    execAll (p.map .encb) (s.setSplit r.eAcc r.eCnt) =
      .next ((emitSymbols syms s).setSplit r1.eAcc r1.eCnt) := by
  induction p generalizing r syms s with
  | nil =>
    cases h
    rw [emitSymbols_nil]
    rfl
  | cons b p ih =>
    obtain ⟨sym, r0, more, hpush, hrest, rfl⟩ := splitPushAll_cons_ok h
    rw [List.map_cons, execAll_cons_of_next (execEncb_of_splitPush (splitPush_setSplit hpush s)),
      emitSymbol_setSplit, ih hrest, emitSymbols_append, emitSymbols_toList]

theorem reportLength_emitSymbols_split (p : List Byte) {s : State} (hlen : s.eLen = 0#32) :
    (reportLength (emitSymbols (split p) s)).res = BitVec.ofNat 32 (encodePayload p).2 := by
  simp [emitSymbols, encodePayload, hlen]

/-- From an idle path, the commands of a payload emit its encoding and end with its length in `RES`. -/
theorem execAll_encb_then_encend (p : List Byte) {s : State} (hcnt : s.eCnt = 0#4) (hacc : s.eAcc = 0#8) :
    ∃ r, execAll (p.map .encb) s = .next r ∧
      exec .encend r = .next ((reportLength (emitSymbols (split p) s)).setSplit 0#8 0#4) := by
  obtain ⟨syms, s1, last, s2, hpush, hflush, hsyms, hcnt2, hacc2⟩ :=
    splitPushAll_then_splitFlush p hcnt hacc
  refine ⟨_, execAll_encb hpush s, ?_⟩
  rw [execEncend_of_splitFlush (splitFlush_setSplit hflush _), emitSymbol_setSplit, ← emitSymbols_toList,
    ← emitSymbols_append, hsyms, hcnt2, hacc2]
  rfl

/-- Settles O48: the words before ENCEND leave the path as the payload's own commands do, and ENCEND acts on
the path alone. -/
theorem encodePathComputesEncode : Obligations.EncodePathComputesEncode := by
  intro p ws rest s hs hcnt hlen hpath hinput
  obtain ⟨_, hidle, _⟩ := hs.1
  obtain ⟨r, hrun, hend⟩ := execAll_encb_then_encend p hcnt (hidle hcnt)
  rw [← hpath] at hrun
  obtain ⟨u, hsteps, -, hinput1, hsame⟩ :=
    encodePath_frame.stepN_interleaved hs hinput ⟨rfl, rfl, rfl, rfl⟩ hrun
  have hlast : step u = exec .encend (u.setInput rest) :=
    (step_command hinput1).trans (execWord_of_legal (decode_encode .encend) _)
  have hlaid : (u.setInput rest).withEncodePath r = u.setInput rest :=
    (encodePath_frame.trans hsame (encodePath_frame.same_setInput u rest)).withEncodePath_eq
  rw [← hlaid, exec_withEncodePath rfl hend] at hlast
  exact ⟨_, stepN_succ_of_stepN hsteps hlast, rfl, reportLength_emitSymbols_split p hlen, rfl, rfl, rfl,
    rfl⟩

/-! ## The decode path computes `decode` (R130) -/

/-- The join unit reads and writes `D_ACC` and `D_AN` alone. -/
theorem joinPush_setJoin {x : Symbol} {r r1 : State} {bytes : List Byte}
    (h : joinPush x r = .ok (bytes, r1)) (s : State) :
    joinPush x (s.setJoin r.dAcc r.dAn) = .ok (bytes, s.setJoin r1.dAcc r1.dAn) := by
  obtain ⟨han, rfl, rfl⟩ | ⟨han, rfl, rfl⟩ := joinPush_cases h <;> simp [joinPush, han] <;> rfl

theorem joinPushAll_cons_ok {x : Symbol} {xs : List Symbol} {r r2 : State} {bs : List Byte}
    (h : joinPushAll (x :: xs) r = .ok (bs, r2)) :
    ∃ bytes r1 more, joinPush x r = .ok (bytes, r1) ∧ joinPushAll xs r1 = .ok (more, r2) ∧
      bs = bytes ++ more := by
  rw [joinPushAll] at h
  split at h
  case h_1 => cases h
  case h_2 bytes r1 hpush =>
    split at h
    case h_1 => cases h
    case h_2 more r2' hrest =>
      cases h
      exact ⟨bytes, r1, more, hpush, hrest, rfl⟩

/-- Three bytes from an empty group: their word is decoded and its symbol pushed to the join unit. -/
theorem execAll_decb_group {a b c : Byte} {is : List Instr} {r r1 s : State} {bytes : List Byte}
    (hgn : s.dGn = 0#2) (h : joinPush (dec24 (a ++ b ++ c)).1 r = .ok (bytes, r1)) :
    execAll (.decb a :: .decb b :: .decb c :: is) (s.setJoin r.dAcc r.dAn) =
      execAll is ((s.acceptGroup (a ++ b ++ c) bytes).setJoin r1.dAcc r1.dAn) := by
  have hfirst : exec (.decb a) (s.setJoin r.dAcc r.dAn) =
      .next ((s.setJoin r.dAcc r.dAn).setGroup (a ++ 0#8) 1#2) := execDecb_of_dGn_zero a hgn
  have hsecond : exec (.decb b) ((s.setJoin r.dAcc r.dAn).setGroup (a ++ 0#8) 1#2) =
      .next ((s.setGroup (a ++ b) 2#2).setJoin r.dAcc r.dAn) := by
    rw [execDecb_of_dGn_one b rfl, State.setGroup_dGrp, BitVec.extractLsb'_append_eq_left]
    rfl
  have hthird : exec (.decb c) ((s.setGroup (a ++ b) 2#2).setJoin r.dAcc r.dAn) =
      .next (((s.setGroup (a ++ b) 2#2).setJoin r1.dAcc r1.dAn).acceptGroup (a ++ b ++ c) bytes) :=
    execDecb_of_joinPush c rfl (joinPush_setJoin h _)
  rw [execAll_cons_of_next hfirst, execAll_cons_of_next hsecond, execAll_cons_of_next hthird]
  rfl

/-- An incomplete group emits and counts nothing (R38). -/
theorem execAll_decb_of_length_lt {e : List Byte} (h : e.length < 3) {s : State} (hgn : s.dGn = 0#2) :
    ∃ t, execAll (e.map .decb) s = .next t ∧ t.decOut = s.decOut ∧ t.dErr = s.dErr := by
  match e, h with
  | [], _ => exact ⟨s, rfl, rfl, rfl⟩
  | [a], _ =>
    rw [List.map_cons, execAll_cons_of_next (execDecb_of_dGn_zero a hgn)]
    exact ⟨_, rfl, rfl, rfl⟩
  | [a, b], _ =>
    rw [List.map_cons, execAll_cons_of_next (execDecb_of_dGn_zero a hgn), List.map_cons,
      execAll_cons_of_next (execDecb_of_dGn_one b rfl)]
    exact ⟨_, rfl, rfl, rfl⟩

/-- DECB group by group is the join unit on the decoded symbols, with the errors of each word counted. -/
theorem execAll_decb {e : List Byte} {r r1 : State} {bs : List Byte}
    (h : joinPushAll ((groupWords e).map fun c => (dec24 c).1) r = .ok (bs, r1)) {s : State}
    (hgn : s.dGn = 0#2) :
    ∃ t, execAll (e.map .decb) (s.setJoin r.dAcc r.dAn) = .next t ∧ t.decOut = s.decOut ++ bs ∧
      t.dErr = s.dErr + BitVec.ofNat 32 (decodeStream e).2 := by
  simp only [decodeStream]
  induction e using group_induction generalizing r bs s with
  | rest e hlt =>
    rw [groupWords_of_length_lt hlt] at h ⊢
    cases h
    simpa using execAll_decb_of_length_lt (s := s.setJoin r1.dAcc r1.dAn) hlt hgn
  | group a b c e ih =>
    obtain ⟨bytes, r0, more, hpush, hrest, rfl⟩ := joinPushAll_cons_ok h
    obtain ⟨t, hrun, hout, herr⟩ := ih hrest (s := s.acceptGroup (a ++ b ++ c) bytes) rfl
    refine ⟨t, (execAll_decb_group hgn hpush).trans hrun, ?_, ?_⟩
    · rw [hout, State.acceptGroup_decOut, List.append_assoc]
    · rw [herr, State.acceptGroup_dErr, groupWords_cons_triple, List.map_cons, List.sum_cons,
        BitVec.ofNat_add, BitVec.add_assoc]

/-- From an idle path, the commands of a stream emit its decoding and leave its count in `D_ERR`. -/
theorem execAll_decb_of_idle (e : List Byte) {s : State} (hgn : s.dGn = 0#2) (han : s.dAn = 0#3)
    (herr : s.dErr = 0#32) :
    ∃ r, execAll (e.map .decb) s = .next r ∧ r.decOut = s.decOut ++ (decodeStream e).1 ∧
      r.dErr = BitVec.ofNat 32 (decodeStream e).2 := by
  obtain ⟨s1, hjoin⟩ := joinPushAll_eq_join ((groupWords e).map fun c => (dec24 c).1) han
  obtain ⟨r, hrun, hout, hcount⟩ := execAll_decb hjoin hgn
  rw [herr, BitVec.zero_add] at hcount
  exact ⟨r, hrun, hout, hcount⟩

/-- Settles O49: the words before DECEND leave the path as the stream's own commands do, and DECEND reports
what the path counted. -/
theorem decodePathComputesDecode : Obligations.DecodePathComputesDecode := by
  intro e ws rest s hs hgn han herr hpath hinput
  obtain ⟨r, hrun, hout, hcount⟩ := execAll_decb_of_idle e hgn han herr
  rw [← hpath] at hrun
  obtain ⟨u, hsteps, -, hinput1, -, -, -, -, herr1, hout1⟩ :=
    decodePath_frame.stepN_interleaved hs hinput ⟨rfl, rfl, rfl, rfl, rfl, rfl⟩ hrun
  have hlast : step u = exec .decend (u.setInput rest) :=
    (step_command hinput1).trans (execWord_of_legal (decode_encode .decend) _)
  have hres : u.dErr.setWidth 32 = BitVec.ofNat 32 (decodeStream e).2 := by
    rw [BitVec.setWidth_eq, ← herr1, hcount]
  exact ⟨_, stepN_succ_of_stepN hsteps hlast, hout1.symm.trans hout, hres, rfl, rfl, rfl, rfl, rfl, rfl⟩

/-! ## Counts that do not wrap (R133) -/

theorem encodePayload_snd_le (p : List Byte) : (encodePayload p).2 ≤ 2 * p.length + 2 := by
  rw [encodePayload_snd]
  omega

/-- At most 3 errors are counted in a group of 3 bytes. -/
theorem decodeStream_snd_le (e : List Byte) : (decodeStream e).2 ≤ e.length := by
  have hsum : (decodeStream e).2 ≤ ((groupWords e).map fun c => (dec24 c).2).length * 3 :=
    List.sum_le_card_nsmul _ 3 fun k hk => by
      obtain ⟨c, -, rfl⟩ := List.mem_map.1 hk
      exact dec24_snd_le c
  rw [List.length_map, length_groupWords] at hsum
  omega

/-- Settles O52: below `2^32` the reported residue is the number itself. -/
theorem reportedCountsAreExactInRange : Obligations.ReportedCountsAreExactInRange := by
  refine ⟨fun p => ?_, fun p hp => ?_, decodeStream_snd_le,
    fun p ws rest s t hs hcnt hlen hpath hinput hlt ht => ?_,
    fun e ws rest s t hs hgn han herr hpath hinput hlt ht => ?_⟩
  · exact encodePayload_snd p ▸ encodePayload_snd_le p
  · have hle := encodePayload_snd_le p
    omega
  · obtain ⟨t', ht', -, hres, -⟩ := encodePathComputesEncode p ws rest s hs hcnt hlen hpath hinput
    obtain rfl : t = t' := Host.Outcome.next.inj (ht.symm.trans ht')
    rw [hres, BitVec.toNat_ofNat, encodePayload_snd, Nat.mod_eq_of_lt hlt]
  · obtain ⟨t', ht', -, hres, -⟩ := decodePathComputesDecode e ws rest s hs hgn han herr hpath hinput
    obtain rfl : t = t' := Host.Outcome.next.inj (ht.symm.trans ht')
    rw [hres, BitVec.toNat_ofNat, Nat.mod_eq_of_lt hlt]

end Sys2Proof.Machine

/-!
Proofs of the checks on the listing (43_syndrome_rom.md R151). The counts follow from what the table holds: the
addresses whose word has their syndrome are the syndromes of the patterns of weight at most 3 (R96), and every
other word has weight 3 (R97). So do the single-bit entries. The exclusive-or, the sum, the words at fixed
addresses and the first starred addresses are evaluated.
-/

namespace Sys2Proof.Machine

theorem nodup_allSymbols : allSymbols.Nodup :=
  List.nodup_range.map_on fun m hm n hn h => by
    simpa [Nat.mod_eq_of_lt (List.mem_range.1 hm), Nat.mod_eq_of_lt (List.mem_range.1 hn)] using
      congrArg BitVec.toNat h

theorem mem_allSymbols (z : Symbol) : z ∈ allSymbols :=
  List.mem_map.2 ⟨z.toNat, List.mem_range.2 z.isLt, by simp⟩

theorem countP_allSymbols (p : Symbol → Bool) : allSymbols.countP p = {z | p z}.ncard := by
  have hset : {z | p z} = ↑(allSymbols.filter p).toFinset := by
    ext z
    simp [mem_allSymbols]
  rw [hset, Set.ncard_coe_finset, List.toFinset_card_of_nodup (nodup_allSymbols.filter p),
    List.countP_eq_length_filter]

theorem countP_allSymbols_not (p : Symbol → Bool) :
    allSymbols.countP (!p ·) = 4096 - allSymbols.countP p := by
  have htotal : 4096 = allSymbols.countP p + allSymbols.countP (!p ·) := by
    simpa [allSymbols] using allSymbols.length_eq_countP_add_countP (p := p)
  omega

/-- The unstarred addresses, by their words: one for each light pattern (R96). -/
theorem ncard_syn_synRom_eq {p : Codeword → Prop} (hp : ∀ e, p e → popcount e ≤ 3) :
    {z | syn (synRom z) = z ∧ p (synRom z)}.ncard = {e | p e}.ncard := by
  have hinverse : ∀ e, p e → synRom (syn e) = e := fun e he => synRom_syn (hp e he)
  have himage : {z | syn (synRom z) = z ∧ p (synRom z)} = syn '' {e | p e} := by
    ext z
    constructor
    · rintro ⟨hsyn, hmem⟩
      exact ⟨synRom z, hmem, hsyn⟩
    · rintro ⟨e, he, rfl⟩
      exact ⟨congrArg syn (hinverse e he), (hinverse e he).symm ▸ he⟩
  have hinj : Set.InjOn syn {e | p e} := Set.LeftInvOn.injOn hinverse
  rw [himage, hinj.ncard_image]

theorem syn_synRom_of_popcount_lt {z : Symbol} (h : popcount (synRom z) < 3) : syn (synRom z) = z := by
  obtain ⟨-, hsyn | ⟨hthree, -⟩⟩ := synRom_fits z
  · exact hsyn
  · omega

/-- A word of weight below 3 stands at one address only, so such words are counted as patterns. -/
theorem countP_synRom {p : Codeword → Bool} (hp : ∀ e, p e → popcount e < 3) :
    allSymbols.countP (fun z => p (synRom z)) = {e | p e}.ncard := by
  have hset : {z | p (synRom z)} = {z | syn (synRom z) = z ∧ p (synRom z)} := by
    ext z
    exact ⟨fun h => ⟨syn_synRom_of_popcount_lt (hp _ h), h⟩, And.right⟩
  rw [countP_allSymbols, hset]
  exact ncard_syn_synRom_eq fun e he => (hp e he).le

theorem countP_popcount_synRom {k : Nat} (hk : k < 3) :
    allSymbols.countP (fun z => popcount (synRom z) == k) = Nat.choose 24 k := by
  rw [countP_synRom (p := (popcount · == k)) fun _ he => beq_iff_eq.1 he ▸ hk]
  simpa using ncard_popcount_eq 24 k

/-- The words of weight 3 are those that are not lighter. -/
theorem countP_popcount_synRom_three :
    allSymbols.countP (fun z => popcount (synRom z) == 3) = 3795 := by
  have hlighter : allSymbols.countP (fun z => decide (popcount (synRom z) ≤ 2)) = 301 := by
    rw [countP_synRom (p := (popcount · ≤ 2)) fun _ he => Nat.lt_succ_of_le (of_decide_eq_true he)]
    simp only [decide_eq_true_eq]
    exact ncard_popcount_le 24 2
  have hthree : (fun z => popcount (synRom z) == 3) = fun z => !decide (popcount (synRom z) ≤ 2) := by
    funext z
    obtain ⟨hle, -⟩ := synRom_fits z
    rw [Bool.eq_iff_iff, beq_iff_eq, Bool.not_eq_true', decide_eq_false_iff_not]
    omega
  rw [hthree, countP_allSymbols_not, hlighter]

/-- The unstarred addresses are the syndromes of the light patterns; the others are starred. -/
theorem countP_syn_synRom_ne : allSymbols.countP (fun z => syn (synRom z) != z) = 1771 := by
  have hset : {z | syn (synRom z) == z} = {z | syn (synRom z) = z ∧ popcount (synRom z) ≤ 3} := by
    ext z
    simp [(synRom_fits z).1]
  have hunstarred : allSymbols.countP (fun z => syn (synRom z) == z) = 2325 := by
    rw [countP_allSymbols, hset]
    exact (ncard_syn_synRom_eq fun _ => id).trans (ncard_popcount_le 24 3)
  simp only [bne, countP_allSymbols_not, hunstarred]

theorem synRom_of_syn_bit {j : Nat} {z : Symbol} (hj : j < 24) (h : syn (1#24 <<< j) = z) :
    synRom z = 1#24 <<< j := by
  have hone : ∀ j < 24, popcount (1#24 <<< j) ≤ 3 := by decide
  rw [← h, synRom_syn (hone j hj)]

/-- R151: the exclusive-or of all words. -/
theorem foldl_xor_synRom : allSymbols.foldl (fun x z => x ^^^ synRom z) 0#24 = 0x000001#24 := by
  decide +kernel

/-- R151: the sum of all words. -/
theorem sum_toNat_synRom : (allSymbols.map fun z => (synRom z).toNat).sum = 8522824989 := by
  decide +kernel

/-- Settles O37: the starred words are those of R97, and the single-bit entries are covered ones. -/
theorem tableMeetsTheListingChecks : Obligations.TableMeetsTheListingChecks := by
  obtain ⟨-, -, -, hparity, hdata⟩ := syndromeDependsOnTheErrorAlone
  refine ⟨⟨countP_popcount_synRom (by decide), countP_popcount_synRom (by decide),
      countP_popcount_synRom (by decide), countP_popcount_synRom_three⟩,
    countP_syn_synRom_ne, fun z hz => (synRom_fits z).2.resolve_left hz, foldl_xor_synRom,
    sum_toNat_synRom, by decide, fun p hp => synRom_of_syn_bit (by omega) (hparity p hp),
    fun i row hrow => ?_, by decide, by decide, by decide +kernel⟩
  obtain ⟨hi, -⟩ := List.getElem?_eq_some_iff.1 hrow
  have hrows : parityRows.length = 12 := rfl
  exact synRom_of_syn_bit (by omega) (hdata i row hrow)

end Sys2Proof.Machine

/-!
Proofs of the statements about the fault (60_exceptions.md). A word is legal by its operand form alone, so the
causes of R162 are the reserved bits of each form and the reserved `op`; that no command reads or writes `ILL`
is `exec_unread`.
-/

namespace Sys2Proof.Machine

/-! ## The causes (R162) -/

theorem op_cases (op : BitVec 3) :
    op = 0#3 ∨ op = 1#3 ∨ op = 2#3 ∨ op = 3#3 ∨ op = 4#3 ∨ op = 5#3 ∨ op = 6#3 ∨ op = 7#3 := by
  revert op
  decide

theorem decode_of_opField_eq_seven {w : CommandWord} (h : opField w = 7#3) :
    decode w = .error .reservedOp := by
  simp only [decode, h]
  rfl

theorem exists_checkReserved_eq_error_iff {form : OperandForm} {operand : BitVec 24} {i : Instr} :
    (∃ e, checkReserved form operand i = .error e) ↔ ¬reservedBitsZero form operand = true := by
  unfold checkReserved
  split <;> simp [*]

theorem exists_decode_eq_checkReserved {w : CommandWord} {form : OperandForm}
    (h : formOfOp (opField w) = some form) : ∃ i, decode w = checkReserved form (operandField w) i := by
  unfold formOfOp at h
  split at h
  case h_8 => cases h
  all_goals
    rename_i hop
    cases h
    simp only [decode, hop]
    exact ⟨_, rfl⟩

/-- Under a command's `op` a set reserved bit is the only cause (R53). -/
theorem exists_decode_eq_error_iff_reservedBits_ne_zero {w : CommandWord} {op : BitVec 3}
    {form : OperandForm} (hop : opField w = op) (hform : formOfOp op = some form) :
    (∃ e, decode w = .error e) ↔
      w.extractLsb' (usedBits form) (24 - usedBits form) ≠ 0#(24 - usedBits form) := by
  obtain ⟨i, hdecode⟩ := exists_decode_eq_checkReserved (hop ▸ hform)
  rw [hdecode, exists_checkReserved_eq_error_iff, reservedBitsZero_iff_extractLsb', operandField,
    BitVec.extractLsb'_extractLsb'_of_le (Nat.add_sub_of_le (usedBits_le form)).le]

theorem faultCause_eq_zero_iff (s : State) : faultCause s = 0 ↔ s.ill = false := by
  cases h : s.ill <;> simp [faultCause, h]

/-- Settles O4, one operation code at a time; DECSYM uses its whole operand, so it has no cause. -/
theorem illegalCommandHasExactlyTheseCauses : Obligations.IllegalCommandHasExactlyTheseCauses := by
  refine ⟨fun w => ?causes, fun v w d e s hv hw => ?sameEffect,
    fun w e s hw => ⟨execWord_of_illegal hw s, rfl⟩, faultCause_eq_zero_iff⟩
  case causes =>
    obtain h | h | h | h | h | h | h | h := op_cases (w.extractLsb' 24 3)
    case inr.inr.inr.inr.inr.inr.inr => exact iff_of_true ⟨_, decode_of_opField_eq_seven h⟩ (.inl h)
    all_goals
      rw [exists_decode_eq_error_iff_reservedBits_ne_zero h rfl]
      simp [usedBits, h]
  case sameEffect => rw [execWord_of_illegal hv, execWord_of_illegal hw]

/-! ## The effect (R163) -/

theorem exec_ill {i : Instr} {s t : State} (h : exec i s = .next t) : t.ill = s.ill := by
  obtain ⟨a, b, hunread, -⟩ := exec_unread h
  exact congrArg Unread.ill hunread

theorem exec_setIll {i : Instr} {s t : State} (h : exec i s = .next t) (ill : Bool) :
    exec i { s with ill := ill } = .next { t with ill := ill } := by
  obtain ⟨a, b, hunread, hu⟩ := exec_unread h
  have hwith : { t with ill := ill } = t.withUnread { t.unread with ill := ill } := rfl
  rw [hwith, hunread]
  exact hu { s.unread with ill := ill }

theorem step_illegal {w : CommandWord} {rest : List HostEvent} {e : DecodeError} {s : State}
    (hinput : s.input = .command w :: rest) (hw : decode w = .error e) :
    step s = .next (raiseIllegalCommand (s.setInput rest)) :=
  (step_command hinput).trans (execWord_of_illegal hw _)

/-- Settles O9: `ILL` is among the fields that no command reads, and none writes it. -/
theorem illegalCommandSetsOnlyIll : Obligations.IllegalCommandSetsOnlyIll :=
  ⟨fun _ _ _ _ => step_illegal, fun _ _ _ => exec_ill, fun _ _ _ ill h => exec_setIll h ill⟩

end Sys2Proof.Machine

/-!
Proof of the statement about reset (70_reset_and_hazards.md R180, R181). That only a reset clears `ILL` is the
case analysis of `step_cases` with `exec_ill`.
-/

namespace Sys2Proof.Machine

/-- A reset wins over the command presented with it (R181). -/
theorem step_resetEvent {s : State} {e : HostEvent} {rest : List HostEvent} (hinput : s.input = e :: rest)
    (he : e = .reset ∨ ∃ w, e = .resetAndCommand w) : step s = .next (applyReset (s.setInput rest)) := by
  obtain rfl | ⟨w, rfl⟩ := he <;> simp only [step, takeEvent, hinput, present]

/-- Only a reset clears `ILL` (R180): without one a step is idle, raises `ILL`, or runs a command, which
keeps it. -/
theorem step_clears_ill {s t : State} (hill : s.ill = true) (hstep : step s = .next t)
    (hclear : t.ill = false) :
    ∃ e rest, s.input = e :: rest ∧ (e = .reset ∨ ∃ w, e = .resetAndCommand w) := by
  obtain ⟨-, rfl⟩ | ⟨e, rest, hinput, ⟨rfl, -⟩ | ⟨w, rfl, -⟩ | ⟨w, r, -, -, rfl⟩ | ⟨w, i, -, -, hexec⟩⟩ :=
    step_cases hstep
  · simp [hill] at hclear
  · exact ⟨_, rest, hinput, .inl rfl⟩
  · exact ⟨_, rest, hinput, .inr ⟨w, rfl⟩⟩
  · simp at hclear
  · simp [exec_ill hexec, hill] at hclear

/-- Settles O10: a step at a reset event is `applyReset`, and every other step that leaves `ILL` clear
found it clear. -/
theorem resetEventZeroesTheRegisters : Obligations.ResetEventZeroesTheRegisters :=
  ⟨fun _ _ _ => step_resetEvent, fun _ _ => step_clears_ill⟩

end Sys2Proof.Machine

/-!
Proofs of the remaining statements about the encoding (30_encoding.md sections 1 to 3): the round trips are
`decode_encode` and `encode_eq_of_decode`, and the check of WellFormed is the decoder's.
-/

namespace Sys2Proof

open Machine

theorem formOfOp_eq_none_iff {op : BitVec 3} : formOfOp op = none ↔ op = 7#3 := by
  revert op
  decide

/-- The legal words are the well-formed ones (R53, R54). -/
theorem wellFormedWord_iff {w : CommandWord} : wellFormedWord w = true ↔ ∃ i, decode w = .ok i := by
  unfold wellFormedWord
  split
  next hform => simp [decode_of_opField_eq_seven (formOfOp_eq_none_iff.1 hform)]
  next form hform =>
    obtain ⟨i, hdecode⟩ := exists_decode_eq_checkReserved hform
    simp [hdecode, checkReserved_eq_ok_iff]

theorem wellFormedWord_encode (i : Instr) : wellFormedWord (encode i) = true :=
  wellFormedWord_iff.2 ⟨i, decode_encode i⟩

/-- Settles O1. -/
theorem decodeOfEncodeIsTheInstruction : Obligations.DecodeOfEncodeIsTheInstruction := fun i =>
  ⟨decode_encode i, wellFormedWord_encode i⟩

/-- Settles O2. -/
theorem encodeOfDecodeIsTheWord : Obligations.EncodeOfDecodeIsTheWord :=
  ⟨fun _ _ => encode_eq_of_decode, fun _ => wellFormedWord_iff⟩

/-- Settles O5. -/
theorem sampleWordsDecode : Obligations.SampleWordsDecode := by
  unfold Obligations.SampleWordsDecode
  decide

end Sys2Proof

/-!
Proofs of the remaining statements about the step and the flags (30_encoding.md section 1, 10_state.md sections
4 and 6): when a command has a next state, and what `STATUS` shows.
-/

namespace Sys2Proof.Machine

/-- Settles O7. -/
theorem stepRunsTheDecodedCommand : Obligations.StepRunsTheDecodedCommand := fun _ _ _ _ hinput hw =>
  (step_command hinput).trans (execWord_of_legal hw _)

theorem step_of_input_eq_nil {s : State} (h : s.input = []) : step s = .next s := by
  simp only [step, takeEvent, h, idle]

/-- Settles O8. -/
theorem stepWithNothingPresentedIsIdle : Obligations.StepWithNothingPresentedIsIdle := fun _ =>
  step_of_input_eq_nil

theorem execWord_of_inv {s : State} (hs : s.Inv) (w : CommandWord) : ∃ t, execWord w s = .next t := by
  cases hw : decode w with
  | error e => exact ⟨_, execWord_of_illegal hw s⟩
  | ok i => exact execWord_of_legal hw s ▸ exec_of_inv hs i

/-- Settles O13: the invariant covers every phase, and no other event has a phase. -/
theorem everyStepFromTheInvariantHasASuccessor : Obligations.EveryStepFromTheInvariantHasASuccessor := by
  intro s hs
  cases hinput : s.input with
  | nil => exact ⟨s, step_of_input_eq_nil hinput⟩
  | cons e rest =>
    cases e with
    | reset => exact ⟨_, step_resetEvent hinput (.inl rfl)⟩
    | resetAndCommand w => exact ⟨_, step_resetEvent hinput (.inr ⟨w, rfl⟩)⟩
    | command w => exact step_command hinput ▸ execWord_of_inv (s := s.setInput rest) hs w

/-! ## Where a command has a next state (R23, R78, R79, R81, R126) -/

section Phases

variable {s : State}

theorem exists_execEncb_next_iff {b : Byte} :
    (∃ t, exec (.encb b) s = .next t) ↔ s.eCnt = 0#4 ∨ s.eCnt = 4#4 ∨ s.eCnt = 8#4 := by
  constructor
  · rintro ⟨t, h⟩
    obtain ⟨sym, s1, hpush, -⟩ := execEncb_next h
    obtain ⟨hcnt, -⟩ | ⟨hcnt, -⟩ | ⟨hcnt, -⟩ := splitPush_cases hpush <;> simp [hcnt]
  · rintro (h | h | h)
    · exact ⟨_, execEncb_of_splitPush (splitPush_of_eCnt_zero b h)⟩
    · exact ⟨_, execEncb_of_splitPush (splitPush_of_eCnt_four b h)⟩
    · exact ⟨_, execEncb_of_splitPush (splitPush_of_eCnt_eight b h)⟩

theorem exists_execEncend_next_iff :
    (∃ t, exec .encend s = .next t) ↔ s.eCnt = 0#4 ∨ s.eCnt = 4#4 ∨ s.eCnt = 8#4 := by
  constructor
  · rintro ⟨t, h⟩
    obtain ⟨sym, s1, hflush, -⟩ := execEncend_next h
    obtain ⟨hcnt, -⟩ | ⟨hcnt, -⟩ | ⟨hcnt, -⟩ := splitFlush_cases hflush <;> simp [hcnt]
  · rintro (h | h | h)
    · exact ⟨_, execEncend_of_splitFlush (splitFlush_of_eCnt_zero h)⟩
    · exact ⟨_, execEncend_of_splitFlush (splitFlush_of_eCnt_four h)⟩
    · exact ⟨_, execEncend_of_splitFlush (splitFlush_of_eCnt_eight h)⟩

theorem exists_execDecb_next_iff {b : Byte} :
    (∃ t, exec (.decb b) s = .next t) ↔
      s.dGn = 0#2 ∨ s.dGn = 1#2 ∨ (s.dGn = 2#2 ∧ (s.dAn = 0#3 ∨ s.dAn = 4#3)) := by
  constructor
  · rintro ⟨t, h⟩
    obtain ⟨hgn, -⟩ | ⟨hgn, -⟩ | ⟨hgn, hgroup⟩ := execDecb_next h
    · exact .inl hgn
    · exact .inr (.inl hgn)
    · obtain ⟨bytes, s1, hjoin, -⟩ := decodeGroup_next hgroup
      exact .inr (.inr ⟨hgn, (joinPush_cases hjoin).imp And.left And.left⟩)
  · rintro (h | h | ⟨h, han | han⟩)
    · exact ⟨_, execDecb_of_dGn_zero b h⟩
    · exact ⟨_, execDecb_of_dGn_one b h⟩
    · exact ⟨_, execDecb_of_joinPush b h (joinPush_of_dAn_zero _ han)⟩
    · exact ⟨_, execDecb_of_joinPush b h (joinPush_of_dAn_four _ han)⟩

end Phases

theorem groupPhase_cases (gn : BitVec 2) : gn = 0#2 ∨ gn = 1#2 ∨ gn = 2#2 ∨ gn = 3#2 := by
  revert gn
  decide

/-- Settles O14: the phases outside which a command stops are those it answers in, negated. -/
theorem commandsStopExactlyOutsideTheirPhases : Obligations.CommandsStopExactlyOutsideTheirPhases := by
  intro i s
  simp only [ne_eq, ← not_exists]
  cases i with
  | nop | encsym | decsym | decend => simp [exec, execNop, execEncsym, execDecsym, execDecend, onEncodePath]
  | encb b => simp [exists_execEncb_next_iff, onEncodePath]
  | encend => simp [exists_execEncend_next_iff, onEncodePath]
  | decb b =>
    rw [exists_execDecb_next_iff]
    obtain h | h | h | h := groupPhase_cases s.dGn <;> simp [h, onEncodePath]

/-- The fields of `STATUS` (R20). -/
theorem status_fields (s : State) :
    (status s).getLsbD 0 = s.ill ∧ (status s).getLsbD 1 = eBusy s ∧ (status s).getLsbD 2 = dBusy s ∧
      (status s).extractLsb' 3 5 = 0#5 := by
  unfold status
  generalize dBusy s = d, eBusy s = e, s.ill = i
  revert d e i
  decide

/-- Settles O15. -/
theorem statusShowsIllAndTheBusyPaths : Obligations.StatusShowsIllAndTheBusyPaths := by
  intro s
  obtain ⟨hill, hebusy, hdbusy, hzero⟩ := status_fields s
  refine ⟨hill, ?_, ?_, hzero⟩
  · rw [hebusy, eBusy, bne_iff_ne]
  · rw [hdbusy, dBusy, Bool.or_eq_true, bne_iff_ne, bne_iff_ne]

end Sys2Proof.Machine

/-!
Proofs of the remaining statements about the transform (41_golay_transform.md): the fields of `RES` after the
symbol commands, and the words of more than 3 errors. What the table holds is `synRom_fits`; that no two light
patterns have one syndrome is `eq_of_syn_eq`.
-/

namespace Sys2Proof.Machine

/-! ## The fields of `RES` (30_encoding.md section 4) -/

/-- Above a zero-extended value every field is 0 (R57). -/
theorem extractLsb'_setWidth_of_width_le {w n start : Nat} (v : BitVec w) (h : w ≤ start) (len : Nat) :
    (v.setWidth n).extractLsb' start len = 0#len := by
  refine BitVec.eq_of_getLsbD_eq fun i _ => ?_
  have hbit : v.getLsbD (start + i) = false := BitVec.getLsbD_of_ge _ _ (by omega)
  simp [hbit]

theorem getLsbD_enc24_of_lt (x : Symbol) {j : Nat} (hj : j < 12) :
    (enc24 x).getLsbD j = (par12 x).getLsbD j := by
  rw [enc24, BitVec.getLsbD_append, if_pos hj]

/-- Settles O18: the low half of the codeword is `par12`, whose bits follow the column masks. -/
theorem encsymResultByColumnMasks : Obligations.EncsymResultByColumnMasks := by
  obtain ⟨-, -, -, hmasks, -⟩ := parityIsLinearAndFollowsTheColumnMasks
  refine fun x s => ⟨(enc24 x).setWidth 32, rfl, extractLsb'_setWidth_of_width_le _ le_rfl 8, ?_,
    fun j m hm => ?_⟩
  · rw [BitVec.extractLsb'_setWidth_of_le (by decide)]
    exact dataBits_enc24 x
  · obtain ⟨hj, -⟩ := List.getElem?_eq_some_iff.1 hm
    have hlength : columnMasks.length = 12 := rfl
    have hword : ((enc24 x).setWidth 32).getLsbD j = (enc24 x).getLsbD j := by
      rw [BitVec.getLsbD_setWidth, decide_eq_true (by omega : j < 32), Bool.true_and]
    rw [hword, getLsbD_enc24_of_lt x (by omega)]
    exact hmasks x j m hm

/-- Settles O20: the count is at most 3, so two bits hold it. -/
theorem decsymResultFieldsLoseNothing : Obligations.DecsymResultFieldsLoseNothing := by
  refine fun c s => ⟨decsymResult (dec24 c), rfl, ?_, ?_, extractLsb'_setWidth_of_width_le _ le_rfl 18⟩
  · rw [decsymResult, BitVec.extractLsb'_setWidth_of_le (by decide), BitVec.extractLsb'_append_eq_right]
  · rw [decsymResult, BitVec.extractLsb'_setWidth_of_le (by decide), BitVec.extractLsb'_append_eq_left,
      BitVec.toNat_ofNat, Nat.mod_eq_of_lt (Nat.lt_succ_of_le (dec24_snd_le c))]

/-! ## The uncovered syndromes (R97) -/

/-- A syndrome is covered exactly when its entry has it. -/
theorem exists_light_syn_eq_iff {z : Symbol} :
    (∃ e : Codeword, popcount e ≤ 3 ∧ syn e = z) ↔ syn (synRom z) = z := by
  constructor
  · rintro ⟨e, he, rfl⟩
    rw [synRom_syn he]
  · exact fun hsyn => ⟨synRom z, (synRom_fits z).1, hsyn⟩

/-- Two patterns of weight 3 that with bit 0 added have one syndrome are equal. -/
theorem eq_of_syn_xor_one_eq {e e' : Codeword} (he : popcount e = 3) (he' : popcount e' = 3)
    (h : syn (e ^^^ 1#24) = syn (e' ^^^ 1#24)) : e = e' := by
  refine eq_of_syn_eq ?_ (by omega)
  simpa using h

theorem ncard_uncovered : {z : Symbol | ∀ e : Codeword, popcount e ≤ 3 → syn e ≠ z}.ncard = 1771 := by
  have hset : {z : Symbol | ∀ e : Codeword, popcount e ≤ 3 → syn e ≠ z} =
      {z | (syn (synRom z) != z) = true} := by
    ext z
    simpa using not_congr (exists_light_syn_eq_iff (z := z))
  rw [hset, ← countP_allSymbols]
  exact countP_syn_synRom_ne

/-- An entry of R97, with bit 0 added, has the syndrome of its address. -/
theorem syn_synRom_xor_one {z : Symbol} (h : syn (synRom z) = z ^^^ 1#12) :
    syn (synRom z ^^^ 1#24) = z := by
  rw [syn_xor, h, syn_one, BitVec.xor_assoc, BitVec.xor_self, BitVec.xor_zero]

/-- Settles O36: an entry has the syndrome of its address, or it is one of R97. -/
theorem tableFillsTheUncoveredSyndromes : Obligations.TableFillsTheUncoveredSyndromes := by
  refine ⟨fun z => ?_, ncard_uncovered, fun z => (synRom_fits z).1, by decide⟩
  obtain ⟨hle, hsyn | ⟨hthree, hbit, hsyn⟩⟩ := synRom_fits z
  · exact .inl ⟨synRom z, hle, hsyn⟩
  · have hadded := syn_synRom_xor_one hsyn
    exact .inr ⟨hthree, hbit, hadded, fun e he _ h =>
      eq_of_syn_xor_one_eq he hthree (h.trans hadded.symm)⟩

/-! ## The nearest codeword (R98, R101) -/

/-- A pattern of weight 4 has the syndrome of no lighter one, so its entry is one of R97. -/
theorem popcount_synRom_syn_of_popcount_eq_four {e : Codeword} (he : popcount e = 4) :
    popcount (synRom (syn e)) = 3 := by
  obtain ⟨hle, hsyn | ⟨hthree, -⟩⟩ := synRom_fits (syn e)
  · have heq := eq_of_syn_eq hsyn (by omega)
    rw [heq] at hle
    omega
  · exact hthree

/-- The distance of a word from the codeword that a correction leads to is the weight of the correction. -/
theorem dist_enc24_dataBits_xor {c e : Codeword} (h : syn e = syn c) :
    dist c (enc24 (dataBits (c ^^^ e))) = popcount e := by
  have hword : syn (c ^^^ e) = 0#12 := by rw [syn_xor, h, BitVec.xor_self]
  rw [enc24_dataBits hword, dist, ← BitVec.xor_assoc, BitVec.xor_self, BitVec.zero_xor]

/-- Bit 0 is a parity bit. -/
theorem dataBits_xor_one (c : Codeword) : dataBits (c ^^^ 1#24) = dataBits c := by
  have hone : dataBits 1#24 = 0#12 := by decide
  rw [dataBits_xor, hone, BitVec.xor_zero]

/-- Settles O40: where the entry has another syndrome, adding bit 0 to it is a correction of weight 4 that
answers the same symbol. -/
theorem heavierErrorsStillGiveACountOfAtMostThree :
    Obligations.HeavierErrorsStillGiveACountOfAtMostThree := by
  refine ⟨dec24_snd_le, fun x e he => ?_, fun c => ?_⟩
  · have hsyn : syn (enc24 x ^^^ e) = syn e := by simp
    rw [dec24, dec24With, hsyn]
    exact popcount_synRom_syn_of_popcount_eq_four he
  · obtain ⟨-, hsyn | ⟨hthree, hbit, hsyn⟩⟩ := synRom_fits (syn c)
    · exact .inl (dist_enc24_dataBits_xor hsyn)
    · have hdist := dist_enc24_dataBits_xor (syn_synRom_xor_one hsyn)
      rw [← BitVec.xor_assoc, dataBits_xor_one, popcount_xor_one hbit, hthree] at hdist
      exact .inr hdist

end Sys2Proof.Machine

/-!
Proofs of the remaining statements about the paths (10_state.md, 20_memory.md R46): what each kind of command
writes, the end markers, and the phase counters.
-/

namespace Sys2Proof.Machine

theorem onDecodePath_of_onEncodePath {i : Instr} (hi : onEncodePath i = true) : onDecodePath i = false := by
  cases i <;> trivial

theorem onEncodePath_of_onDecodePath {i : Instr} (hi : onDecodePath i = true) : onEncodePath i = false := by
  cases i <;> trivial

/-- Settles O25: what a command does not write is the other path, `ILL` and the command stream. -/
theorem commandsWriteOnlyTheirOwnPath : Obligations.CommandsWriteOnlyTheirOwnPath := by
  refine ⟨fun i s t hi h => ?_, fun i s t hi h => ?_, fun i s t => exec_offPaths_eq⟩
  · obtain ⟨hgrp, hgn, hacc, han, herr, hout⟩ := exec_sameDecodePath (onDecodePath_of_onEncodePath hi) h
    rw [hgrp, hgn, hacc, han, herr, hout, ← exec_ill h, ← exec_input h]
  · obtain ⟨hacc, hcnt, hlen, hout⟩ := exec_sameEncodePath (onEncodePath_of_onDecodePath hi) h
    rw [hacc, hcnt, hlen, hout, ← exec_ill h, ← exec_input h]

/-! ## The end markers (R28) -/

/-- After the flush the split unit holds nothing; idle, it held nothing by R23. -/
theorem splitFlush_idle {s s1 : State} {sym : Option Symbol} (hs : s.EncodeInv)
    (h : splitFlush s = .ok (sym, s1)) : s1.eAcc = 0#8 ∧ s1.eCnt = 0#4 := by
  obtain ⟨-, hidle, -⟩ := hs
  obtain ⟨hcnt, -, rfl⟩ | ⟨-, -, rfl⟩ | ⟨-, -, rfl⟩ := splitFlush_cases h
  · exact ⟨hidle hcnt, hcnt⟩
  · exact ⟨rfl, rfl⟩
  · exact ⟨rfl, rfl⟩

/-- ENCEND resets the registers of its path (R125). -/
theorem execEncend_registers {s t : State} (hs : s.EncodeInv) (h : exec .encend s = .next t) :
    t.eAcc = 0#8 ∧ t.eCnt = 0#4 ∧ t.eLen = 0#32 := by
  obtain ⟨sym, s1, hflush, rfl⟩ := execEncend_next h
  obtain ⟨hacc, hcnt⟩ := splitFlush_idle hs hflush
  rw [emitSymbol_eq]
  exact ⟨hacc, hcnt, rfl⟩

/-- Settles O30: the registers are cleared by the flush; the rest is the frame of the end marker. -/
theorem endMarkersReturnThePathToReset : Obligations.EndMarkersReturnThePathToReset := by
  refine ⟨fun s t hs h => ?_, fun s t h => ?_⟩
  · obtain ⟨hacc, hcnt, hlen⟩ := execEncend_registers hs h
    obtain ⟨hprefix, -⟩ := exec_streams_prefix h
    obtain ⟨-, -, -, -, -, hout⟩ := exec_sameDecodePath rfl h
    exact ⟨hacc, hcnt, hlen, exec_ill h, hprefix, hout.symm⟩
  · cases h
    exact ⟨rfl, rfl, rfl, rfl, rfl, rfl, rfl, rfl⟩

/-! ## The phase counters (R12, R15, R17) -/

theorem stepN_succ_next {n : Nat} {s u : State} (h : stepN (n + 1) s = .next u) :
    ∃ t, step s = .next t ∧ stepN n t = .next u := by
  rw [stepN] at h
  split at h
  case h_1 t ht => exact ⟨t, ht, h⟩
  all_goals cases h

/-- One word either leaves the path as it was or is the next of the path's commands. -/
theorem PathFrame.execWord_cases {onPath : Instr → Bool} {Same : State → State → Prop}
    (hframe : PathFrame onPath Same) {w : CommandWord} {s t : State} (h : execWord w s = .next t)
    (ws : List CommandWord) :
    t.input = s.input ∧
      ((Same s t ∧ pathCommands onPath (w :: ws) = pathCommands onPath ws) ∨
        ∃ i, exec i s = .next t ∧ pathCommands onPath (w :: ws) = i :: pathCommands onPath ws) := by
  cases hw : decode w with
  | error e =>
    rw [execWord_of_illegal hw] at h
    cases h
    exact ⟨rfl, .inl ⟨hframe.same_illegal s, pathCommands_cons_illegal ws hw⟩⟩
  | ok i =>
    rw [execWord_of_legal hw] at h
    refine ⟨exec_input h, ?_⟩
    cases hi : onPath i with
    | false => exact .inl ⟨hframe.exec_offPath hi h, pathCommands_cons_offPath ws hw hi⟩
    | true => exact .inr ⟨i, h, pathCommands_cons_onPath ws hw hi⟩

/-- A property of the path that counts the pushed bytes counts them among any other words. -/
theorem PathFrame.stepN_count {onPath : Instr → Bool} {Same : State → State → Prop}
    (hframe : PathFrame onPath Same) {c : Byte → Instr} {Count : Nat → State → Prop}
    (hsame : ∀ {n s t}, Same s t → Count n s → Count n t)
    (hpush : ∀ {n b s t}, exec (c b) s = .next t → Count n s → Count (n + 1) t)
    {ws : List CommandWord} {rest : List HostEvent} {p : List Byte} {n : Nat} {s t : State}
    (hinput : s.input = ws.map .command ++ rest) (hpath : pathCommands onPath ws = p.map c)
    (hsteps : stepN ws.length s = .next t) (hcount : Count n s) : Count (n + p.length) t := by
  induction ws generalizing p n s with
  | nil =>
    cases hsteps
    obtain rfl : p = [] := List.map_eq_nil_iff.1 hpath.symm
    exact hcount
  | cons w ws ih =>
    obtain ⟨u, hstep, hrest⟩ := stepN_succ_next hsteps
    rw [step_command hinput] at hstep
    have hcount0 := hsame (hframe.same_setInput s (ws.map .command ++ rest)) hcount
    obtain ⟨hinput1, ⟨hsame1, hskip⟩ | ⟨i, hexec, hcons⟩⟩ := hframe.execWord_cases hstep ws
    · exact ih hinput1 (hskip.symm.trans hpath) hrest (hsame hsame1 hcount0)
    · obtain ⟨b, p, rfl, rfl, hpath1⟩ := List.map_eq_cons_iff.1 (hpath.symm.trans hcons)
      have hcount1 := ih hinput1 hpath1.symm hrest (hpush hexec hcount0)
      rwa [Nat.add_assoc, Nat.add_comm 1] at hcount1

/-- What `E_CNT` holds after `n` bytes (R12). -/
def State.EncodeCount (n : Nat) (s : State) : Prop := s.eCnt.toNat = 8 * n % 12

/-- What `D_GN` and `D_AN` hold after `n` bytes (R15, R17). -/
def State.DecodeCount (n : Nat) (s : State) : Prop :=
  s.dGn.toNat = n % 3 ∧ s.dAn.toNat = 12 * (n / 3) % 8

theorem execEncb_encodeCount {n : Nat} {b : Byte} {s t : State} (h : exec (.encb b) s = .next t)
    (hs : s.EncodeCount n) : t.EncodeCount (n + 1) := by
  obtain ⟨sym, s1, hpush, rfl⟩ := execEncb_next h
  rw [emitSymbol_eq]
  unfold State.EncodeCount at *
  obtain ⟨hcnt, -, rfl⟩ | ⟨hcnt, -, rfl⟩ | ⟨hcnt, -, rfl⟩ := splitPush_cases hpush <;>
    simp [hcnt] at hs ⊢ <;> omega

theorem execDecb_decodeCount {n : Nat} {b : Byte} {s t : State} (h : exec (.decb b) s = .next t)
    (hs : s.DecodeCount n) : t.DecodeCount (n + 1) := by
  unfold State.DecodeCount at *
  obtain ⟨hgn, rfl⟩ | ⟨hgn, rfl⟩ | ⟨hgn, hgroup⟩ := execDecb_next h
  · simp [hgn] at hs ⊢
    omega
  · simp [hgn] at hs ⊢
    omega
  · obtain ⟨bytes, s1, hjoin, rfl⟩ := decodeGroup_next hgroup
    obtain ⟨han, -, rfl⟩ | ⟨han, -, rfl⟩ := joinPush_cases hjoin <;>
      simp [hgn, han] at hs ⊢ <;> omega

theorem State.EncodeCount.eCnt_cases {n : Nat} {s : State} (hs : s.EncodeCount n) :
    s.eCnt = 0#4 ∨ s.eCnt = 8#4 ∨ s.eCnt = 4#4 := by
  simp only [BitVec.toNat_eq]
  unfold State.EncodeCount at hs
  simp
  omega

/-- Settles O31: a push moves a path's counters on by one byte, and nothing but its commands moves them. -/
theorem phaseCountersCountThePushedBytes : Obligations.PhaseCountersCountThePushedBytes := by
  refine ⟨fun p ws rest s t hcnt hinput hpath hsteps => ?_,
    fun e ws rest s t hgn han hinput hpath hsteps => ?_⟩
  · have hstart : s.EncodeCount 0 := by simp [State.EncodeCount, hcnt]
    have hend : t.EncodeCount (0 + p.length) :=
      encodePath_frame.stepN_count (fun ⟨_, hcnt, _, _⟩ hs => (congrArg BitVec.toNat hcnt).symm.trans hs)
        execEncb_encodeCount hinput hpath hsteps hstart
    rw [Nat.zero_add] at hend
    exact ⟨hend, hend.eCnt_cases⟩
  · have hstart : s.DecodeCount 0 := by simp [State.DecodeCount, hgn, han]
    have hend : t.DecodeCount (0 + e.length) :=
      decodePath_frame.stepN_count
        (fun ⟨_, hgn, _, han, _, _⟩ hs =>
          ⟨(congrArg BitVec.toNat hgn).symm.trans hs.1, (congrArg BitVec.toNat han).symm.trans hs.2⟩)
        execDecb_decodeCount hinput hpath hsteps hstart
    rwa [Nat.zero_add] at hend

end Sys2Proof.Machine

/-!
Proof of the statement about the assembler's text (30_encoding.md R59, R60). A printed line is a mnemonic and at
most one literal, and reading the literal gives the number back; every other line that assembles, `.word`
apart, gives encodings of commands.
-/

namespace Sys2Proof.Machine

/-! ## Literals -/

/-- The digits that `renderHex` writes after `0x`. -/
def renderDigits (digits n : Nat) : List Char :=
  (List.range digits).map fun k => hexChar (n / 16 ^ (digits - 1 - k) % 16)

theorem renderHex_eq (digits n : Nat) : renderHex digits n = '0' :: 'x' :: renderDigits digits n := rfl

theorem renderDigits_succ (digits n : Nat) :
    renderDigits (digits + 1) n = hexChar (n / 16 ^ digits % 16) :: renderDigits digits n := by
  simp [renderDigits, List.range_succ_eq_map, Function.comp_def, Nat.sub_sub, Nat.add_comm]

theorem hexDigit_hexChar {d : Nat} (h : d < 16) : hexDigit (hexChar d) = some d := by
  revert d
  decide

/-- Reading the digits of `n` after `acc` shifts `acc` by their number. -/
theorem hexFrom_renderDigits (acc digits n : Nat) :
    hexFrom acc (renderDigits digits n) = some (16 ^ digits * acc + n % 16 ^ digits) := by
  induction digits generalizing acc with
  | zero => simp [renderDigits, hexFrom, Nat.mod_one]
  | succ digits ih =>
    rw [renderDigits_succ, hexFrom, hexDigit_hexChar (Nat.mod_lt _ (by decide)), Option.bind_some, ih]
    congr 1
    rw [pow_succ, Nat.mod_mul]
    ring

/-- A literal of at least one digit that holds the whole number is read back. -/
theorem hexLiteral_renderHex {digits n : Nat} (h : n < 16 ^ (digits + 1)) :
    hexLiteral (renderHex (digits + 1) n) = some n := by
  have hread := hexFrom_renderDigits 0 (digits + 1) n
  rw [Nat.mul_zero, Nat.zero_add, Nat.mod_eq_of_lt h, renderDigits_succ] at hread
  rw [renderHex_eq, renderDigits_succ]
  exact hread

theorem fitOperand_toNat {w : Nat} (v : BitVec w) : fitOperand w v.toNat = some v := by
  rw [fitOperand, if_pos v.isLt, BitVec.ofNat_toNat, BitVec.setWidth_eq]

/-! ## Tokens -/

/-- The characters that neither end a token nor open a quote. -/
def isPlain (c : Char) : Bool := c ≠ ';' ∧ c ≠ ' ' ∧ c ≠ quoteChar

theorem tokens_cons_of_isPlain {c : Char} (h : isPlain c = true) (cur rest : List Char) :
    tokens cur false (c :: rest) = tokens (c :: cur) false rest := by
  obtain ⟨hcomment, hspace, hquote⟩ := of_decide_eq_true h
  rw [tokens, if_neg hcomment, if_neg hspace, if_neg hquote]

/-- Plain characters are gathered into the current token. -/
theorem tokens_append_of_isPlain {cs : List Char} (h : ∀ c ∈ cs, isPlain c = true) (cur rest : List Char) :
    tokens cur false (cs ++ rest) = tokens (cs.reverse ++ cur) false rest := by
  induction cs generalizing cur with
  | nil => rfl
  | cons c cs ih =>
    obtain ⟨hc, hcs⟩ := List.forall_mem_cons.1 h
    rw [List.cons_append, tokens_cons_of_isPlain hc, ih hcs, List.reverse_cons, List.append_assoc]
    rfl

theorem tokens_of_isPlain {cs : List Char} (h : ∀ c ∈ cs, isPlain c = true) (hne : cs ≠ []) :
    tokens [] false cs = some [.word cs] := by
  have hgather := tokens_append_of_isPlain h [] []
  rw [List.append_nil, List.append_nil] at hgather
  rw [hgather, tokens, flushToken, if_neg (List.reverse_ne_nil_iff.2 hne), List.reverse_reverse]

theorem tokens_append_space_append {cs rest : List Char} (h : ∀ c ∈ cs, isPlain c = true) (hne : cs ≠ []) :
    tokens [] false (cs ++ ' ' :: rest) = (tokens [] false rest).map (.word cs :: ·) := by
  have hflush : flushToken cs.reverse = (.word cs :: ·) := by
    funext ts
    rw [flushToken, if_neg (List.reverse_ne_nil_iff.2 hne), List.reverse_reverse]
  rw [tokens_append_of_isPlain h, List.append_nil, tokens, if_neg (by decide), if_pos rfl, hflush]

theorem isPlain_hexChar {d : Nat} (h : d < 16) : isPlain (hexChar d) = true := by
  revert d
  decide

theorem isPlain_of_mem_renderHex {digits n : Nat} {c : Char} (h : c ∈ renderHex digits n) :
    isPlain c = true := by
  rw [renderHex_eq, List.mem_cons, List.mem_cons] at h
  obtain rfl | rfl | hdigit := h
  · decide
  · decide
  · obtain ⟨k, -, rfl⟩ := List.mem_map.1 hdigit
    exact isPlain_hexChar (Nat.mod_lt _ (by decide))

theorem tokens_append_space_append_renderHex {m : List Char} (h : ∀ c ∈ m, isPlain c = true) (hne : m ≠ [])
    (digits n : Nat) :
    tokens [] false (m ++ ' ' :: renderHex digits n) = some [.word m, .word (renderHex digits n)] := by
  rw [tokens_append_space_append h hne,
    tokens_of_isPlain (fun _ => isPlain_of_mem_renderHex) (List.cons_ne_nil _ _)]
  rfl

/-! ## Lines -/

/-- A word of plain characters that is none of the three that do not name one command (R59, R60). -/
def isMnemonic (m : List Char) : Bool :=
  m ≠ [] ∧ m.all isPlain ∧ m ≠ ".word".toList ∧ m ≠ "ENCODE".toList ∧ m ≠ "DECODE".toList

/-- A mnemonic and a literal that holds its whole operand make the command's line. -/
theorem assembleLine_operand {m : List Char} {digits n : Nat} {i : Instr} (hm : isMnemonic m = true)
    (hn : n < 16 ^ (digits + 1)) (hi : assembleCommand m (some n) = some i) :
    assembleLine (m ++ ' ' :: renderHex (digits + 1) n) = some [encode i] := by
  obtain ⟨hne, hplain, hword, hencode, hdecode⟩ := of_decide_eq_true hm
  have htokens := tokens_append_space_append_renderHex (List.all_eq_true.1 hplain) hne (digits + 1) n
  simp only [assembleLine, htokens, if_neg hword, if_neg hencode, if_neg hdecode,
    if_neg (List.cons_ne_nil _ _), literalOperand, hexLiteral_renderHex hn, Option.bind_some, hi,
    Option.map_some]

theorem assembleLine_renderInstr (i : Instr) : assembleLine (renderInstr i) = some [encode i] := by
  cases i with
  | nop | encend | decend => decide
  | encsym s =>
    exact assembleLine_operand (m := "ENCSYM".toList) (by decide) s.isLt
      (congrArg (Option.map Instr.encsym) (fitOperand_toNat s))
  | decsym c =>
    exact assembleLine_operand (m := "DECSYM".toList) (by decide) c.isLt
      (congrArg (Option.map Instr.decsym) (fitOperand_toNat c))
  | encb b =>
    exact assembleLine_operand (m := "ENCB".toList) (by decide) b.isLt
      (congrArg (Option.map Instr.encb) (fitOperand_toNat b))
  | decb b =>
    exact assembleLine_operand (m := "DECB".toList) (by decide) b.isLt
      (congrArg (Option.map Instr.decb) (fitOperand_toNat b))

/-- A line is a `.word`, or its words are the encodings of some commands. -/
theorem assembleLine_cases {line : List Char} {ws : List CommandWord} (h : assembleLine line = some ws) :
    (∃ rest, tokens [] false line = some (.word ".word".toList :: rest)) ∨
      ∃ is : List Instr, ws = is.map encode := by
  unfold assembleLine at h
  split at h
  case h_1 | h_3 => cases h
  case h_2 => exact .inr ⟨[], (Option.some.inj h).symm⟩
  case h_4 m rest htokens =>
    split_ifs at h with hword hencode hdecode hrest
    · exact .inl ⟨rest, hword ▸ htokens⟩
    · obtain ⟨p, -, rfl⟩ := Option.map_eq_some_iff.1 h
      exact .inr ⟨_, rfl⟩
    · obtain ⟨e, -, rfl⟩ := Option.map_eq_some_iff.1 h
      exact .inr ⟨_, rfl⟩
    · obtain ⟨i, -, rfl⟩ := Option.map_eq_some_iff.1 h
      exact .inr ⟨[i], rfl⟩
    · obtain ⟨n, -, hn⟩ := Option.bind_eq_some_iff.1 h
      obtain ⟨i, -, rfl⟩ := Option.map_eq_some_iff.1 hn
      exact .inr ⟨[i], rfl⟩

/-- Settles O6: what the assembler emits, `.word` apart, are encodings. -/
theorem assemblerEmitsTheWordOfTheCommand : Obligations.AssemblerEmitsTheWordOfTheCommand := by
  refine ⟨assembleLine_renderInstr, fun line ws h => (assembleLine_cases h).imp_right ?_⟩
  rintro ⟨is, rfl⟩
  exact List.forall_mem_map.2 fun i _ => wellFormedWord_encode i

end Sys2Proof.Machine
